-- ==== Sys2Proof/Word.lean ====
section
/-! DEFINITION. The word types of the block: the 32-bit command/CSR word, the dibit, the reliability byte, and the
REAL and complex data of the datapath (spec R10, R12, R13). Their arithmetic stands in Machine/Real.lean. -/

namespace Sys2Proof

/-- A 32-bit word of the `CMD` and `RESP` ports and of the CSR space (R71, R147). -/
abbrev Word := BitVec 32

/-- A dibit, values 0..3 (R18, R150). -/
abbrev Dibit := BitVec 2

/-- A per-dibit reliability, 0..255 (R461). -/
abbrev Rel := BitVec 8

/-- A value of the default format of REAL: an IEEE 754 binary32 datum, held as its bit pattern (R8, R12, R71).
The operations of Machine/Real.lean produce one NaN pattern only (`F32.nan`). -/
structure F32 where
  bits : Word
deriving DecidableEq, Repr, Inhabited

/-- The REAL 0. -/
def F32.zero : F32 := ⟨0x00000000#32⟩

/-- The REAL 1. -/
def F32.one : F32 := ⟨0x3F800000#32⟩

/-- A complex value `re + j·im` of REAL parts (R13). -/
structure Cplx (R : Type) where
  re : R
  im : R
deriving DecidableEq, Repr, Inhabited

/-- A complex value of the default format. -/
abbrev C32 := Cplx F32

/-- The complex 0. -/
abbrev C32.zero : C32 := ⟨F32.zero, F32.zero⟩

/-- A real value used where a complex is expected is `r + j·0` (R13). -/
abbrev C32.ofReal (r : F32) : C32 := ⟨r, F32.zero⟩

end Sys2Proof
end

