-- ==== Sys2Proof/Syntax.lean ====
section
/-! DEFINITION. The instructions of the block: one constructor per row of spec/opcode_table.json. The first ten are
command words (R184); the twenty-two `stage…` constructors are the stage operations that the block performs inside
`PROC`, selected by a STAGE_EN bit and MODE (R194). -/

namespace Sys2Proof

/-- An instruction. The operands are those of R183, already assembled: a CSR number is 12 bits, `sync_len` the
zero-extended IMM, `id` the sign-extended IMM, the data word of `CSRW` its second command word. -/
inductive Instr where
  /-- `NOP` (R220). -/
  | nop
  /-- `CSRW csr, value` (R221). -/
  | csrw (csr : BitVec 12) (data : Word)
  /-- `CSRR csr` (R222). -/
  | csrr (csr : BitVec 12)
  /-- `PROC` (R223). -/
  | proc
  /-- `RETUNE_RESET` (R225). -/
  | retuneReset
  /-- `RESET` (R226). -/
  | reset
  /-- `WSTART sync_len` (R227). -/
  | wstart (syncLen : Nat)
  /-- `WSTART_CQ sync_len` (R228). -/
  | wstartCq (syncLen : Nat)
  /-- `DMR_ROS` (R229). -/
  | dmrRos
  /-- `CLASSIFY id` (R230). -/
  | classify (id : Int)
  /-- Stage 1, fs/4 shift (R270). -/
  | stageFs4
  /-- Stage 2, half-band decimator cascade (R272). -/
  | stageHb
  /-- Stage 3, complex DC block (R275). -/
  | stageDcb
  /-- Stage 4, FM envelope AGC (R277). -/
  | stageAgc
  /-- Stage 5, FM constant-envelope limiter (R280). -/
  | stageLim
  /-- Stage 6, IQ balance (R282). -/
  | stageIqb
  /-- Stage 7, band-edge FLL (R312). -/
  | stageBefll
  /-- Stage 8, Costas loop with its TED (R316). -/
  | stageCostas
  /-- Stage 9, Gardner TED alone (R330, R319). -/
  | stageTed
  /-- Stage 10, CQPSK equalizer (R361 to R364). -/
  | stageEq
  /-- Stage 11, legacy FM FLL (R390). -/
  | stageLfll
  /-- Stage 12, FM discriminator (R395). -/
  | stageDisc
  /-- Stage 13, deemphasis (R401). -/
  | stageDeemph
  /-- Stage 14, channel LPF (R407). -/
  | stageChlpf
  /-- Stage 15, audio LPF (R420). -/
  | stageAlpf
  /-- Stage 16, polyphase resampler (R435). -/
  | stageResamp
  /-- Differential phasor (R340). -/
  | stageDiff
  /-- Dibit slicer: the symbol step (R458). -/
  | stageSlice
  /-- Frame sync scanner (R512). -/
  | stageScan
  /-- Warm-start on a detection (R470, R475). -/
  | stageWs
  /-- DMR resample-on-sync on a detection (R480). -/
  | stageDmrRos
  /-- CQPSK permutation search (R520). -/
  | stagePerm
deriving DecidableEq, Repr

/-- The pipeline operations that a STAGE_EN bit gates (R76). -/
inductive Stage where
  | fs4 | hb | dcb | agc | lim | iqb | befll | costas | ted | eq | lfll | disc | deemph | chlpf | alpf | resamp
  | diff | slice | scan | ws | dmrRos | perm
deriving DecidableEq, Repr

/-- The stage operation an instruction is, none for a command word (R194). -/
def Instr.stage : Instr → Option Stage
  | .nop => none | .csrw _ _ => none | .csrr _ => none | .proc => none | .retuneReset => none | .reset => none
  | .wstart _ => none | .wstartCq _ => none | .dmrRos => none | .classify _ => none
  | .stageFs4 => some .fs4 | .stageHb => some .hb | .stageDcb => some .dcb | .stageAgc => some .agc
  | .stageLim => some .lim | .stageIqb => some .iqb | .stageBefll => some .befll | .stageCostas => some .costas
  | .stageTed => some .ted | .stageEq => some .eq | .stageLfll => some .lfll | .stageDisc => some .disc
  | .stageDeemph => some .deemph | .stageChlpf => some .chlpf | .stageAlpf => some .alpf
  | .stageResamp => some .resamp | .stageDiff => some .diff | .stageSlice => some .slice | .stageScan => some .scan
  | .stageWs => some .ws | .stageDmrRos => some .dmrRos | .stagePerm => some .perm

end Sys2Proof
end

