-- ==== Sys2Proof/WellFormed.lean ====
section
/-! DEFINITION. Which terms of `Instr` an encoding can carry: the operands fit the fields of R181 to R183. Whether an
operand is LEGAL (a sync length above 2048, an unmapped CSR) is checked when the command runs (R221, R227), as the
spec says. -/

namespace Sys2Proof

/-- `sync_len = zext_16(IMM)` (R183): it fits the 16-bit IMM field. -/
def syncLenFits (n : Nat) : Bool := n < 65536

/-- `id = sext_16(IMM)` (R183): it is a 16-bit two's-complement value. -/
def idFits (id : Int) : Bool := -32768 ≤ id && id < 32768

/-- The instruction's operands fit its encoding. -/
def Instr.wellFormed : Instr → Bool
  | .nop => true
  | .csrw _ _ => true
  | .csrr _ => true
  | .proc => true
  | .retuneReset => true
  | .reset => true
  | .wstart n => syncLenFits n
  | .wstartCq n => syncLenFits n
  | .dmrRos => true
  | .classify id => idFits id
  | .stageFs4 => true
  | .stageHb => true
  | .stageDcb => true
  | .stageAgc => true
  | .stageLim => true
  | .stageIqb => true
  | .stageBefll => true
  | .stageCostas => true
  | .stageTed => true
  | .stageEq => true
  | .stageLfll => true
  | .stageDisc => true
  | .stageDeemph => true
  | .stageChlpf => true
  | .stageAlpf => true
  | .stageResamp => true
  | .stageDiff => true
  | .stageSlice => true
  | .stageScan => true
  | .stageWs => true
  | .stageDmrRos => true
  | .stagePerm => true

end Sys2Proof
end

