-- ==== Sys2Proof/Decode.lean ====
section
/-! DEFINITION. From `CMD` words to instructions and back (30_encoding.md R180 to R186), the reading of a STAGE_EN value
as the stage operations it selects (R76, R194), and the byte order of words and entries over a byte transport (R149). -/

namespace Sys2Proof

/-! ## Fields of a command word -/

/-- OP, bits 31:24 (R181, R182). -/
def opField (w : Word) : BitVec 8 := w.extractLsb' 24 8

/-- SUB, bits 23:16 (R181). -/
def subField (w : Word) : BitVec 8 := w.extractLsb' 16 8

/-- IMM, bits 15:0 (R181). -/
def immField (w : Word) : BitVec 16 := w.extractLsb' 0 16

/-- CSR, bits 23:12 (R182). -/
def csrField (w : Word) : BitVec 12 := w.extractLsb' 12 12

/-- Z, bits 11:0 (R182). -/
def zField (w : Word) : BitVec 12 := w.extractLsb' 0 12

/-- The opcode map of R184. -/
inductive Op where
  | nop | csrw | csrr | proc | retuneReset | reset | wstart | wstartCq | dmrRos | classify
deriving DecidableEq, Repr

/-- The OP value of a row of R184. -/
def Op.code : Op → BitVec 8
  | .nop => 0x00#8
  | .csrw => 0x01#8
  | .csrr => 0x02#8
  | .proc => 0x10#8
  | .retuneReset => 0x20#8
  | .reset => 0x21#8
  | .wstart => 0x30#8
  | .wstartCq => 0x31#8
  | .dmrRos => 0x32#8
  | .classify => 0x40#8

/-- The rows of R184 in its order. -/
def opcodeMap : List Op :=
  [.nop, .csrw, .csrr, .proc, .retuneReset, .reset, .wstart, .wstartCq, .dmrRos, .classify]

/-- The row of R184 whose OP is `b`; every value not listed is illegal. -/
def Op.ofCode (b : BitVec 8) : Option Op := opcodeMap.find? (fun o => o.code == b)

/-- How many command words the opcode takes: two for `CSRW`, one for every other (R180). -/
def Op.words : Op → Nat
  | .csrw => 2
  | _ => 1

/-! ## Decoding -/

/-- What the block finds at the head of `CMD`. -/
inductive Fetch where
  /-- no command word, or a `CSRW` whose data word has not arrived: the block waits (R148) -/
  | wait
  /-- a well-formed command -/
  | instr (i : Instr)
  /-- OP not in the opcode map: `ILLEGAL_OP`, one word consumed (R186 a, R231) -/
  | illegalOp
  /-- a nonzero must-be-zero field: `BAD_FORMAT`, `words` words consumed (R186 b, R180) -/
  | badFormat (words : Nat)
deriving DecidableEq, Repr

/-- A command with no operand: SUB and IMM must be 0 (R181, R183). -/
def decodeBare (w : Word) (i : Instr) : Fetch :=
  if subField w = 0#8 ∧ immField w = 0#16 then .instr i else .badFormat 1

/-- A command with an immediate operand: SUB must be 0 (R181, R183). -/
def decodeImm (w : Word) (i : Instr) : Fetch :=
  if subField w = 0#8 then .instr i else .badFormat 1

/-- A command of format R: Z must be 0 (R182). -/
def decodeReg (w : Word) (words : Nat) (i : Instr) : Fetch :=
  if zField w = 0#12 then .instr i else .badFormat words

/-- `CSRW` is followed by exactly one data word, consumed even when the command word is malformed (R180, R186 b). -/
def decodeCsrw (w : Word) : List Word → Fetch
  | [] => .wait
  | d :: _ => decodeReg w 2 (.csrw (csrField w) d)

/-- The decoder, total on any words: OP selects the row (R231), then the must-be-zero fields are checked (R185). -/
def decode : List Word → Fetch
  | [] => .wait
  | w :: rest =>
    match Op.ofCode (opField w) with
    | none => .illegalOp
    | some .nop => decodeBare w .nop
    | some .csrw => decodeCsrw w rest
    | some .csrr => decodeReg w 1 (.csrr (csrField w))
    | some .proc => decodeBare w .proc
    | some .retuneReset => decodeBare w .retuneReset
    | some .reset => decodeBare w .reset
    | some .wstart => decodeImm w (.wstart (immField w).toNat)
    | some .wstartCq => decodeImm w (.wstartCq (immField w).toNat)
    | some .dmrRos => decodeBare w .dmrRos
    | some .classify => decodeImm w (.classify (immField w).toInt)

/-! ## Stage operations in a STAGE_EN value -/

/-- The STAGE_EN bit of a stage operation (R76). -/
def Stage.bit : Stage → Nat
  | .fs4 => 1 | .hb => 2 | .dcb => 3 | .agc => 4 | .lim => 5 | .iqb => 6 | .befll => 7 | .costas => 8
  | .ted => 9 | .eq => 10 | .lfll => 11 | .disc => 12 | .deemph => 13 | .chlpf => 14 | .alpf => 15
  | .resamp => 16 | .diff => 17 | .slice => 18 | .scan => 19 | .ws => 20 | .dmrRos => 21 | .perm => 22

/-- The stage operations in the order of R76. -/
def stageInstrs : List Instr :=
  [.stageFs4, .stageHb, .stageDcb, .stageAgc, .stageLim, .stageIqb, .stageBefll, .stageCostas, .stageTed,
    .stageEq, .stageLfll, .stageDisc, .stageDeemph, .stageChlpf, .stageAlpf, .stageResamp, .stageDiff,
    .stageSlice, .stageScan, .stageWs, .stageDmrRos, .stagePerm]

/-- Does the STAGE_EN value `v` select the stage operation `i`? -/
def stageSelected (v : Word) (i : Instr) : Bool :=
  match i.stage with
  | some k => v.getLsbD k.bit
  | none => false

/-- The first stage operation that a STAGE_EN value selects (R194: the table's STAGE rows are words of STAGE_EN, not
command words). -/
def decodeStage (v : Word) : Option Instr := stageInstrs.find? (stageSelected v)

/-! ## Encoding -/

/-- A command word of format C (R181). -/
def wordC (o : Op) (imm : BitVec 16) : Word := o.code ++ 0#8 ++ imm

/-- A command word of format R (R182). -/
def wordR (o : Op) (csr : BitVec 12) : Word := o.code ++ csr ++ 0#12

/-- The STAGE_EN value that selects one stage operation (R76). -/
def wordStage (k : Stage) : Word := BitVec.twoPow 32 k.bit

/-- The words of an instruction: the command words of R184, and for a stage operation the STAGE_EN value that the
opcode table gives its row (R194). -/
def encode : Instr → List Word
  | .nop => [wordC .nop 0#16]
  | .csrw a d => [wordR .csrw a, d]
  | .csrr a => [wordR .csrr a]
  | .proc => [wordC .proc 0#16]
  | .retuneReset => [wordC .retuneReset 0#16]
  | .reset => [wordC .reset 0#16]
  | .wstart n => [wordC .wstart (BitVec.ofNat 16 n)]
  | .wstartCq n => [wordC .wstartCq (BitVec.ofNat 16 n)]
  | .dmrRos => [wordC .dmrRos 0#16]
  | .classify id => [wordC .classify (BitVec.ofInt 16 id)]
  | .stageFs4 => [wordStage .fs4]
  | .stageHb => [wordStage .hb]
  | .stageDcb => [wordStage .dcb]
  | .stageAgc => [wordStage .agc]
  | .stageLim => [wordStage .lim]
  | .stageIqb => [wordStage .iqb]
  | .stageBefll => [wordStage .befll]
  | .stageCostas => [wordStage .costas]
  | .stageTed => [wordStage .ted]
  | .stageEq => [wordStage .eq]
  | .stageLfll => [wordStage .lfll]
  | .stageDisc => [wordStage .disc]
  | .stageDeemph => [wordStage .deemph]
  | .stageChlpf => [wordStage .chlpf]
  | .stageAlpf => [wordStage .alpf]
  | .stageResamp => [wordStage .resamp]
  | .stageDiff => [wordStage .diff]
  | .stageSlice => [wordStage .slice]
  | .stageScan => [wordStage .scan]
  | .stageWs => [wordStage .ws]
  | .stageDmrRos => [wordStage .dmrRos]
  | .stagePerm => [wordStage .perm]

/-! ## Words of the opcode table -/

/-- The first two words of an instruction whose low `nbits` bits are `w` and whose other bits are 0: bit 0 is the least
significant bit of the first word. -/
def tableWords (nbits w : Nat) : Word × Word :=
  let v := w % 2 ^ nbits
  (BitVec.ofNat 32 v, BitVec.ofNat 32 (v / 2 ^ 32))

/-- The instruction that a word of the opcode table names: a command word where it is a well-formed one, and else the
stage operation that the word selects as a STAGE_EN value (R194: "match/mask select the STAGE_EN bit"). -/
def decodeTableWord (nbits w : Nat) : Option Instr :=
  let v := tableWords nbits w
  match decode [v.1, v.2] with
  | .instr i => some i
  | _ => decodeStage v.1

/-! ## Byte order -/

/-- A 32-bit word over a byte transport, little-endian (R149). -/
def wordBytes (w : Word) : List (BitVec 8) :=
  [w.extractLsb' 0 8, w.extractLsb' 8 8, w.extractLsb' 16 8, w.extractLsb' 24 8]

/-- The word that four bytes of a byte transport carry, none for another number of bytes (R149). -/
def wordOfBytes : List (BitVec 8) → Option Word
  | [b0, b1, b2, b3] => some (b3 ++ b2 ++ b1 ++ b0)
  | _ => none

/-- A 16-bit value over a byte transport, little-endian: an audio entry, or one half of an IQ entry (R149). -/
def halfBytes (h : BitVec 16) : List (BitVec 8) := [h.extractLsb' 0 8, h.extractLsb' 8 8]

/-- The 16-bit value that two bytes of a byte transport carry, none for another number of bytes (R149). -/
def halfOfBytes : List (BitVec 8) → Option (BitVec 16)
  | [b0, b1] => some (b1 ++ b0)
  | _ => none

/-- An IQ entry over a byte transport: I[7:0], I[15:8], Q[7:0], Q[15:8] in that order (R149). -/
def iqBytes (i q : BitVec 16) : List (BitVec 8) := halfBytes i ++ halfBytes q

/-- The (I, Q) pair that four bytes of a byte transport carry, none for another number of bytes (R149). -/
def iqOfBytes : List (BitVec 8) → Option (BitVec 16 × BitVec 16)
  | [b0, b1, b2, b3] => some (b1 ++ b0, b3 ++ b2)
  | _ => none

end Sys2Proof
end

