-- ==== Sys2Proof/Config.lean ====
section
/-! DEFINITION. The default sizes of the parameters of R8 (R143, R146, R263) and the FREE values: what the spec gives no
value for. A free value has no body, so nothing can be proved of which value it is. -/

namespace Sys2Proof.Config

/-- The default of `IQ_CAP`, the capacity of the `IQ_IN` ring (R143: 2^20). -/
def iqCap : Nat := 1048576

/-- The default of `AUDIO_CAP`, the capacity of the `AUDIO_OUT` ring (R146: 2^16). -/
def audioCap : Nat := 65536

/-- The default of `CHLPF_NTAPS_MAX`, the largest channel LPF (R263: 1023). -/
def chlpfNtapsMax : Nat := 1023

/-- FREE VALUE. The sign and fraction bits of the NaN pattern that a read-only REAL CSR shows when the state element it
reads is a NaN: IEEE 754 and the spec fix no NaN payload (R71, R556). Applied to the counter `State.free`, the CSR's address
and the word of its select register (0 where it has none), so that two reads with no datapath command between them show one
pattern (R152). -/
opaque nanPattern : Nat → BitVec 12 → Word → Word

/-- FREE VALUE. The maximum or minimum of a window of symbols one of which is a NaN (R460 orders REAL values; a NaN has
no place in the order). Applied to the counter `State.free`. -/
opaque windowExtreme : Nat → Word

/-- FREE VALUE. The reliability of a symbol whose margin `m` or boundary spacing `h` is a NaN: R461 says only that it is
an integer 0..255. Applied to `m` and `h`. -/
opaque relOfNan : F32 → F32 → Rel

/-- FREE VALUE. The minimum of R461 over margins one of which is a NaN. Applied to the three margins. -/
opaque marginOfNan : F32 → F32 → F32 → F32

/-- FREE VALUE. `ATAN2_Q14` of arguments one of which is a NaN: R396 says only that the result lies in
−16384..16384. Applied to `y` and `x`; the value is taken modulo 32769, less 16384. -/
opaque atan2Q14OfNan : F32 → F32 → Nat

/-- FREE VALUE. The best DMR pattern where a score is a NaN (R481 takes the greatest score). Applied to the counter
`State.free`; the value is taken modulo 8. -/
opaque bestPatternOfNan : Nat → Nat

end Sys2Proof.Config
end

