-- ==== Sys2Proof/Machine/Real.lean ====
section
/-! DEFINITION. REAL arithmetic (R12): IEEE 754 binary32 values as exact integer multiples of 2^-149; every operation is
computed exactly and then rounded to nearest, ties to even. Overflow gives an infinity, an invalid operation a NaN, and
nothing traps (R12, R556). -/

namespace Sys2Proof.F32

/-! ## The parts of a datum -/

/-- The sign bit. -/
def isNeg (x : F32) : Bool := x.bits.getLsbD 31

/-- The biased exponent field. -/
def expo (x : F32) : Nat := (x.bits.extractLsb' 23 8).toNat

/-- The fraction field. -/
def frac (x : F32) : Nat := (x.bits.extractLsb' 0 23).toNat

/-- Is the datum a NaN? -/
def isNan (x : F32) : Bool := x.expo == 255 && x.frac != 0

/-- Is the datum an infinity? -/
def isInf (x : F32) : Bool := x.expo == 255 && x.frac == 0

/-- Is the datum finite? -/
def isFinite (x : F32) : Bool := x.expo != 255

/-- The magnitude of a finite datum in units of 2^-149, of which every finite datum is a whole number. -/
def mag (x : F32) : Nat :=
  if x.expo = 0 then x.frac else (x.frac + 8388608) <<< (x.expo - 1)

/-- The value of a finite datum in units of 2^-149. -/
def units (x : F32) : Int := if x.isNeg then -(x.mag : Int) else x.mag

/-- The NaN every invalid operation gives. Its payload is free where a program reads it (`Config.nanPattern`). -/
def nan : F32 := ⟨0x7FC00000#32⟩

/-- The infinity of a sign. -/
def infinity (neg : Bool) : F32 := if neg then ⟨0xFF800000#32⟩ else ⟨0x7F800000#32⟩

/-- The zero of a sign. -/
def signedZero (neg : Bool) : F32 := if neg then ⟨0x80000000#32⟩ else ⟨0x00000000#32⟩

/-- A pattern as a datum, every NaN pattern as the one NaN of the model. -/
def ofWord (w : Word) : F32 := if (F32.mk w).isNan then nan else ⟨w⟩

/-! ## Rounding -/

/-- How many low bits of `n`, in units of 2^-(149+k), are dropped to leave at most 24 bits on the 2^-149 grid. -/
def dropBits (n k : Nat) : Nat := max k (Nat.log2 n + 1 - 24)

/-- Round `n / 2^r` to an integer, ties to even; `sticky` says that a nonzero tail was already dropped. -/
def roundShift (n r : Nat) (sticky : Bool) : Nat :=
  let q := n >>> r
  let rest := 2 * (n - q <<< r)
  if 2 ^ r < rest || (rest == 2 ^ r && (sticky || q % 2 == 1)) then q + 1 else q

/-- `rnd` of `n·2^-(149+k)` with the given sign (R12: round to nearest even, overflow to infinity). The exponent field
and the fraction come from one sum, so a carry out of the fraction raises the exponent. -/
def rnd (neg : Bool) (n k : Nat) (sticky : Bool) : F32 :=
  let r := dropBits n k
  let b := (r - k) <<< 23 + roundShift n r sticky
  if 0x7F800000 ≤ b then infinity neg
  else ⟨BitVec.ofNat 32 (if neg then b + 0x80000000 else b)⟩

/-- `rnd` of an integer number of units of 2^-149. -/
def rndUnits (u : Int) : F32 := rnd (u < 0) u.natAbs 0 false

/-- `rnd` of the rational `n / d` (`d` not 0): constants and exact quotients of integers. -/
def ofRat (n : Int) (d : Nat) : F32 :=
  let m := n.natAbs <<< 349
  rnd (n < 0) (m / d) 200 (m % d != 0)

/-- `rnd` of an integer. -/
def ofInt (n : Int) : F32 := rnd (n < 0) (n.natAbs <<< 149) 0 false

/-- `rnd` of a natural number. -/
def ofNat (n : Nat) : F32 := rnd false (n <<< 149) 0 false

/-! ## Order -/

/-- A number that orders the data other than NaN as their values (an infinity beyond every finite value, −0 equal to
0). -/
def key (x : F32) : Int :=
  let m : Int := (x.bits.extractLsb' 0 31).toNat
  if x.isNeg then -m else m

/-- `x < y`; false when either is a NaN. -/
def lt (x y : F32) : Bool := !x.isNan && !y.isNan && decide (x.key < y.key)

/-- `x ≤ y`; false when either is a NaN. -/
def le (x y : F32) : Bool := !x.isNan && !y.isNan && decide (x.key ≤ y.key)

/-- `x = y` as values; false when either is a NaN. -/
def eqv (x y : F32) : Bool := !x.isNan && !y.isNan && decide (x.key = y.key)

/-- Is the value 0? -/
def isZero (x : F32) : Bool := eqv x zero

/-! ## Operations -/

/-- `−x`. -/
def neg (x : F32) : F32 := if x.isNan then nan else ⟨x.bits ^^^ 0x80000000#32⟩

/-- `|x|`. -/
def abs (x : F32) : F32 := if x.isNan then nan else ⟨x.bits &&& 0x7FFFFFFF#32⟩

/-- The sum of two finite data. A zero sum of nonzero parts is +0. -/
def addFinite (x y : F32) : F32 :=
  let u := x.units + y.units
  if u = 0 then signedZero (x.isNeg && y.isNeg) else rndUnits u

/-- `x + y`. -/
def add (x y : F32) : F32 :=
  if x.isNan || y.isNan then nan
  else if x.isInf then (if y.isInf && (x.isNeg != y.isNeg) then nan else x)
  else if y.isInf then y
  else addFinite x y

/-- `x − y`. -/
def sub (x y : F32) : F32 := add x (neg y)

/-- `x × y`. -/
def mul (x y : F32) : F32 :=
  let s := x.isNeg != y.isNeg
  if x.isNan || y.isNan then nan
  else if x.isInf || y.isInf then (if x.isZero || y.isZero then nan else infinity s)
  else rnd s (x.mag * y.mag) 149 false

/-- `x ÷ y`. -/
def div (x y : F32) : F32 :=
  let s := x.isNeg != y.isNeg
  if x.isNan || y.isNan then nan
  else if x.isInf then (if y.isInf then nan else infinity s)
  else if y.isInf then signedZero s
  else if y.mag = 0 then (if x.mag = 0 then nan else infinity s)
  else
    let m := x.mag <<< 349
    rnd s (m / y.mag) 200 (m % y.mag != 0)

/-- One Newton step after another towards `⌊√n⌋`, from above. -/
def isqrtLoop : Nat → Nat → Nat → Nat
  | 0, _, x => x
  | fuel + 1, n, x =>
    let y := (x + n / x) / 2
    if y < x then isqrtLoop fuel n y else x

/-- `⌊√n⌋`. -/
def isqrt (n : Nat) : Nat :=
  if n = 0 then 0 else isqrtLoop (Nat.log2 n + 2) n (2 ^ (Nat.log2 n / 2 + 1))

/-- `√x`; NaN for a negative value, and `√(−0)` is −0. -/
def sqrt (x : F32) : F32 :=
  if x.isNan then nan
  else if x.isZero then x
  else if x.isNeg then nan
  else if x.isInf then x
  else
    let m := x.mag <<< 149
    let r := isqrt m
    rnd false r 0 (r * r != m)

/-- The floor of the quotient `x ÷ y` of finite data, `y` not 0, computed exactly (R12: "floor of a quotient"); none
otherwise. -/
def floorQuot (x y : F32) : Option Int :=
  if x.isFinite && y.isFinite && y.mag != 0 then some (x.units.fdiv y.units) else none

/-- `round_half_even` of a finite datum. -/
def roundHalfEven (x : F32) : Int :=
  let q : Int := roundShift x.mag 149 false
  if x.isNeg then -q else q

/-- The constant π as a REAL, `rnd(π)`. -/
def pi : F32 := ⟨0x40490FDB#32⟩

/-- The constant 2π as a REAL. -/
def twoPi : F32 := ⟨0x40C90FDB#32⟩

/-- `wrap(θ) = θ − 2π·k` for the unique integer `k` with `−π < θ − 2π·k ≤ π` (R15), π being the REAL constant: the
difference is exact and rounded once. An angle that is not finite has no such `k` and gives a NaN. -/
def wrap (x : F32) : F32 :=
  if x.isFinite then
    let p := pi.units
    let k := -((p - x.units).fdiv (2 * p))
    if k = 0 then x else rndUnits (x.units - 2 * p * k)
  else nan

end Sys2Proof.F32
end

