-- ==== Sys2Proof/Machine/Elementary.lean ====
section
/-! DEFINITION. The transcendental operations of R12 (`exp`, `sin`, `cos`, `atan2`) and `ATAN2_Q14` (R396): the exact
value in fixed point with 640 fractional bits, then one rounding. The rounding is that of the exact value unless it lies
within about 2^-480 of a midpoint between two REALs (notes/assumptions/4.md). -/

namespace Sys2Proof.F32

/-- The fractional bits of the fixed-point values of this file. -/
def fixBits : Nat := 640

/-- 1 in fixed point. -/
def fixOne : Nat := 2 ^ fixBits

/-- ⌊π·2^640⌋. -/
def fixPi : Nat :=
  14333329926761567455775730701799299831126131522901418329710873694248203755857903894978459978948837038337184470360789102305252273090192709030764248428292776480232102476327552185579501988876367276

/-- The product of two fixed-point values. -/
def fixMul (a b : Nat) : Nat := (a * b) >>> fixBits

/-- The REAL nearest to a nonzero fixed-point value that stands for an irrational number. -/
def ofFix (neg : Bool) (v : Nat) : F32 := rnd neg v (fixBits - 149) true

/-- The alternating tail `t − t·r²/((k+1)(k+2)) + …` of the Taylor series of sin or cos, `r2` being r². -/
def taylorAlt : Nat → Nat → Nat → Nat → Nat
  | 0, _, _, _ => 0
  | fuel + 1, r2, k, t =>
    if t = 0 then 0 else t - taylorAlt fuel r2 (k + 2) (fixMul t r2 / ((k + 1) * (k + 2)))

/-- sin r for a fixed-point r in [0, π/2]. -/
def fixSin (r : Nat) : Nat := taylorAlt 200 (fixMul r r) 1 r

/-- cos r for a fixed-point r in [0, π/2]. -/
def fixCos (r : Nat) : Nat := taylorAlt 200 (fixMul r r) 0 fixOne

/-- The quadrant of |x| and the rest, in fixed point: |x| = quadrant·π/2 + rest. -/
def quadrant (x : F32) : Nat × Nat :=
  let a := x.mag <<< (fixBits + 1 - 149)
  (a / fixPi % 4, a % fixPi / 2)

/-- `sin x`. -/
def sin (x : F32) : F32 :=
  if !x.isFinite then nan
  else if x.mag = 0 then x
  else
    let q := quadrant x
    let v := if q.1 % 2 = 0 then fixSin q.2 else fixCos q.2
    ofFix (x.isNeg != decide (2 ≤ q.1)) v

/-- `cos x`. -/
def cos (x : F32) : F32 :=
  if !x.isFinite then nan
  else if x.mag = 0 then one
  else
    let q := quadrant x
    let v := if q.1 % 2 = 0 then fixCos q.2 else fixSin q.2
    ofFix (q.1 == 1 || q.1 == 2) v

/-- The Taylor series `t + t·y/(k+1) + …` of the exponential. -/
def taylorExp : Nat → Nat → Nat → Nat → Nat
  | 0, _, _, _ => 0
  | fuel + 1, y, k, t =>
    if t = 0 then 0 else t + taylorExp fuel y (k + 1) (fixMul t y / (k + 1))

/-- `exp x`. Beyond |x| = 128 the value overflows, or rounds to 0. -/
def exp (x : F32) : F32 :=
  if x.isNan then nan
  else if x.mag = 0 then one
  else if 128 <<< 149 ≤ x.mag || x.isInf then (if x.isNeg then zero else infinity false)
  else
    -- e^|x| = (e^(|x|/256))^256
    let e := Nat.repeat (fun v => fixMul v v) 8 (taylorExp 200 (x.mag <<< (fixBits - 149 - 8)) 0 fixOne)
    ofFix false (if x.isNeg then fixOne * fixOne / e else e)

/-- The series `t − t³/3 + t⁵/5 − …`, `p` being the current power of t and `k` its exponent. -/
def atanSeries : Nat → Nat → Nat → Nat → Nat
  | 0, _, _, _ => 0
  | fuel + 1, t2, k, p =>
    if p = 0 then 0 else p / k - atanSeries fuel t2 (k + 2) (fixMul p t2)

/-- tan(θ/2) from tan θ: `t / (1 + √(1 + t²))`. -/
def tanHalf (t : Nat) : Nat := (t <<< fixBits) / (fixOne + isqrt (fixOne * fixOne + t * t))

/-- atan t for a fixed-point t in [0, 1], by three halvings of the angle. -/
def fixAtan (t : Nat) : Nat :=
  let u := tanHalf (tanHalf (tanHalf t))
  8 * atanSeries 200 (fixMul u u) 1 u

/-- The angle in [0, π] of the point (x, y), y > 0, of magnitudes `a` = |x|, `b` = y in one unit. -/
def fixAngle (xNeg : Bool) (a b : Nat) : Nat :=
  let first := if b ≤ a then fixAtan ((b <<< fixBits) / a) else fixPi / 2 - fixAtan ((a <<< fixBits) / b)
  if xNeg then fixPi - first else first

/-- The magnitudes of (x, y) for the angle: an infinite part is taken as the limit, so it dwarfs a finite one and two
infinite parts are equal. -/
def anglePair (y x : F32) : Nat × Nat :=
  if x.isInf || y.isInf then (if x.isInf then 1 else 0, if y.isInf then 1 else 0) else (x.mag, y.mag)

/-- `atan2(y, x)` of the values of its arguments (R12, R13): `atan2(0, 0) = 0`, and π for `y = 0 > x`. -/
def atan2 (y x : F32) : F32 :=
  if y.isNan || x.isNan then nan
  else
    let p := anglePair y x
    if p.2 = 0 then (if x.isNeg && p.1 != 0 then (if lt y zero then neg pi else pi) else zero)
    else ofFix y.isNeg (fixAngle x.isNeg p.1 p.2)

/-- `ATAN2_Q14(y, x) = round_half_even(atan2(y, x)·16384/π)` without intermediate rounding (R396). No half-integer can
occur (no rational slope has such an angle), so the rounding is to nearest. A NaN argument gives a free value of
−16384..16384. -/
def atan2Q14 (y x : F32) : Int :=
  if y.isNan || x.isNan then ((Config.atan2Q14OfNan y x % 32769 : Nat) : Int) - 16384
  else
    let p := anglePair y x
    if p.2 = 0 then (if x.isNeg && p.1 != 0 then (if lt y zero then -16384 else 16384) else 0)
    else
      let q : Int := ((32768 * fixAngle x.isNeg p.1 p.2 + fixPi) / (2 * fixPi) : Nat)
      if y.isNeg then -q else q

end Sys2Proof.F32
end

