-- ==== Sys2Proof/Machine/RealFormat.lean ====
section
/-! DEFINITION. The format REAL and its rounding as one argument of the machine, `RealFormat` (R8, R12), its default
`RealFormat.binary32`, and what the rules build from the operations of a format: the helper functions of R15. -/

namespace Sys2Proof

/-- A format REAL with its `rnd` (R8, R12): the type of the data, and the operations on them, each `rnd` of the exact result.
A supplied format answers for that; what the machine asks of one beside R12, and that a CSR is a binary32 pattern in every
format (R71), notes/assumptions/24.md. -/
structure RealFormat (R : Type) where
  /-- the datum 0, of every reset value that is 0 -/
  zero : R
  /-- the datum 1 -/
  one : R
  /-- `rnd` of an integer -/
  ofInt : Int → R
  /-- `rnd` of a natural number -/
  ofNat : Nat → R
  /-- `rnd` of a quotient of integers, the divisor not 0: constants written in decimal, and R142 -/
  ofRat : Int → Nat → R
  /-- `rnd` of the value of a binary32 pattern: a REAL field of a CSR as the stages read it (R71) -/
  ofBinary32 : F32 → R
  /-- the binary32 pattern that a read-only REAL CSR shows of a datum (R71) -/
  toBinary32 : R → F32
  /-- the constant π -/
  pi : R
  /-- the constant 2π -/
  twoPi : R
  /-- what an operation without a result gives -/
  nan : R
  isNan : R → Bool
  isInf : R → Bool
  isNeg : R → Bool
  /-- `x < y` -/
  lt : R → R → Bool
  /-- `x ≤ y` -/
  le : R → R → Bool
  /-- `x = y` as values -/
  eqv : R → R → Bool
  neg : R → R
  abs : R → R
  add : R → R → R
  sub : R → R → R
  mul : R → R → R
  div : R → R → R
  sqrt : R → R
  exp : R → R
  sin : R → R
  cos : R → R
  /-- `atan2(y, x)`, with `atan2(0, 0) = 0` (R13) -/
  atan2 : R → R → R
  /-- the floor of a quotient, none where it has none (R12) -/
  floorQuot : R → R → Option Int
  /-- `round_half_even` of a finite datum (R15) -/
  roundHalfEven : R → Int
  /-- `wrap(θ)` (R15) -/
  wrap : R → R
  /-- FREE: the extreme of a window of symbols that holds a NaN, by the counter `State.free` (R460) -/
  windowExtreme : Nat → R
  /-- FREE: the least of three margins one of which is a NaN (R461) -/
  marginOfNan : R → R → R → R
  /-- FREE: the reliability where the margin, the spacing or the quotient is a NaN (R461) -/
  relOfNan : R → R → Rel

/-- The default of REAL and `rnd`: IEEE 754 binary32, round to nearest, ties to even (R8, R12). -/
abbrev RealFormat.binary32 : RealFormat F32 where
  zero := F32.zero
  one := F32.one
  ofInt := F32.ofInt
  ofNat := F32.ofNat
  ofRat := F32.ofRat
  ofBinary32 := id
  toBinary32 := id
  pi := F32.pi
  twoPi := F32.twoPi
  nan := F32.nan
  isNan := F32.isNan
  isInf := F32.isInf
  isNeg := F32.isNeg
  lt := F32.lt
  le := F32.le
  eqv := F32.eqv
  neg := F32.neg
  abs := F32.abs
  add := F32.add
  sub := F32.sub
  mul := F32.mul
  div := F32.div
  sqrt := F32.sqrt
  exp := F32.exp
  sin := F32.sin
  cos := F32.cos
  atan2 := F32.atan2
  floorQuot := F32.floorQuot
  roundHalfEven := F32.roundHalfEven
  wrap := F32.wrap
  windowExtreme := fun n => F32.ofWord (Config.windowExtreme n)
  marginOfNan := Config.marginOfNan
  relOfNan := Config.relOfNan

variable {R : Type} (F : RealFormat R)

/-! ## The helper functions of R15 -/

/-- Is the value 0? -/
def RealFormat.isZero (x : R) : Bool := F.eqv x F.zero

/-- `clamp(v, lo, hi)` (R15). -/
def RealFormat.clamp (v lo hi : R) : R := if F.lt v lo then lo else if F.lt hi v then hi else v

/-- The sum `a[0] + a[1] + …` in index order (R15, R272, R363); 0 for no terms. -/
def RealFormat.sum : List R → R
  | [] => F.zero
  | a :: as => as.foldl F.add a

/-- `mean(a)`, summed in index order (R15). -/
def RealFormat.mean (as : List R) : R := F.div (F.sum as) (F.ofNat as.length)

/-- `sat16(v)` as the 16-bit pattern (R15); a NaN gives 0 (R556). -/
def RealFormat.sat16 (v : R) : BitVec 16 :=
  if F.isNan v then 0#16
  else if F.isInf v then (if F.isNeg v then 0x8000#16 else 0x7FFF#16)
  else
    let n := F.roundHalfEven v
    BitVec.ofInt 16 (if n < -32768 then -32768 else if 32767 < n then 32767 else n)

/-- `m + μ·(x − m)` of REAL values (R277, R282, R362, R401, R420). -/
def RealFormat.ema (mu m x : R) : R := F.add m (F.mul mu (F.sub x m))

/-! ## The same in the default format, by name -/

/-- `clamp`, in binary32. -/
abbrev F32.clamp : F32 → F32 → F32 → F32 := RealFormat.binary32.clamp
/-- A sum in index order, in binary32. -/
abbrev F32.sum : List F32 → F32 := RealFormat.binary32.sum
/-- `mean`, in binary32. -/
abbrev F32.mean : List F32 → F32 := RealFormat.binary32.mean
/-- `sat16`, in binary32. -/
abbrev F32.sat16 : F32 → BitVec 16 := RealFormat.binary32.sat16

end Sys2Proof
end

