-- ==== Sys2Proof/Machine/Complex.lean ====
section
/-! DEFINITION. Complex arithmetic on REAL parts (R13), each product and sum rounded, the FIR sums and histories the stages
share (R11), and the complex operations of the default format by name. -/

namespace Sys2Proof

variable {R : Type} (F : RealFormat R)

/-- The complex 0. -/
def RealFormat.czero : Cplx R := ⟨F.zero, F.zero⟩

/-- A real value used where a complex is expected is `r + j·0` (R13). -/
def RealFormat.ofReal (r : R) : Cplx R := ⟨r, F.zero⟩

/-- The sum, per part. -/
def RealFormat.cadd (a b : Cplx R) : Cplx R := ⟨F.add a.re b.re, F.add a.im b.im⟩

/-- The difference, per part. -/
def RealFormat.csub (a b : Cplx R) : Cplx R := ⟨F.sub a.re b.re, F.sub a.im b.im⟩

/-- `cmul(a + jb, c + jd) = (a·c − b·d) + j·(a·d + b·c)` (R13). -/
def RealFormat.cmul (x y : Cplx R) : Cplx R :=
  ⟨F.sub (F.mul x.re y.re) (F.mul x.im y.im), F.add (F.mul x.re y.im) (F.mul x.im y.re)⟩

/-- `conj(a + jb) = a − j·b` (R13). -/
def RealFormat.conj (z : Cplx R) : Cplx R := ⟨z.re, F.neg z.im⟩

/-- `norm(z) = re² + im²` (R13). -/
def RealFormat.norm (z : Cplx R) : R := F.add (F.mul z.re z.re) (F.mul z.im z.im)

/-- `abs(z) = sqrt(norm(z))` (R13). -/
def RealFormat.cabs (z : Cplx R) : R := F.sqrt (F.norm z)

/-- `expj(θ) = cos θ + j·sin θ` (R13). -/
def RealFormat.expj (t : R) : Cplx R := ⟨F.cos t, F.sin t⟩

/-- `arg(z) = atan2(im, re)` (R13). -/
def RealFormat.arg (z : Cplx R) : R := F.atan2 z.im z.re

/-- A real number times a complex one, per part. -/
def RealFormat.scale (r : R) (z : Cplx R) : Cplx R := ⟨F.mul r z.re, F.mul r z.im⟩

/-- A complex number divided by a real one, per part. -/
def RealFormat.divReal (z : Cplx R) (r : R) : Cplx R := ⟨F.div z.re r, F.div z.im r⟩

/-- A sum in ascending index order; 0 for no terms (R272, R312, R363). -/
def RealFormat.csum : List (Cplx R) → Cplx R
  | [] => F.czero
  | a :: as => as.foldl F.cadd a

/-- `Σ taps[n]·W[n]` with real taps (R272, R407, R435). -/
def RealFormat.fir (taps : List R) (w : List (Cplx R)) : Cplx R := F.csum (List.zipWith F.scale taps w)

/-- `Σ cmul(taps[n], W[n])` with complex taps (R312, R363). -/
def RealFormat.cfir (taps w : List (Cplx R)) : Cplx R := F.csum (List.zipWith F.cmul taps w)

/-- The exponential moving average `m + μ·(x − m)`, per part (R282, R362). -/
def RealFormat.cema (mu : R) (m x : Cplx R) : Cplx R := F.cadd m (F.scale mu (F.csub x m))

/-! ## The default format -/

/-- The sum, in binary32. -/
abbrev C32.add : C32 → C32 → C32 := RealFormat.binary32.cadd
/-- The difference, in binary32. -/
abbrev C32.sub : C32 → C32 → C32 := RealFormat.binary32.csub
/-- The product `cmul`, in binary32. -/
abbrev C32.mul : C32 → C32 → C32 := RealFormat.binary32.cmul
/-- `conj`, in binary32. -/
abbrev C32.conj : C32 → C32 := RealFormat.binary32.conj
/-- `norm`, in binary32. -/
abbrev C32.norm : C32 → F32 := RealFormat.binary32.norm
/-- `abs`, in binary32. -/
abbrev C32.abs : C32 → F32 := RealFormat.binary32.cabs
/-- A real number times a complex one, in binary32. -/
abbrev C32.scale : F32 → C32 → C32 := RealFormat.binary32.scale
/-- A sum in ascending index order, in binary32. -/
abbrev C32.sum : List C32 → C32 := RealFormat.binary32.csum

/-! ## Histories and streams -/

/-- `push(h, v)`: every element moves one place older, the oldest is dropped, `h[0]` is `v` (R11). -/
def push {α : Type} (h : List α) (v : α) : List α := (v :: h).take h.length

/-- A stage as a stream transducer (R261): run `f` on the samples in order, carrying the state, and join the outputs. -/
def transduce {σ α β : Type} (f : σ → α → σ × List β) : σ → List α → σ × List β
  | s, [] => (s, [])
  | s, x :: xs =>
    let a := f s x
    let b := transduce f a.1 xs
    (b.1, a.2 ++ b.2)

end Sys2Proof
end

