-- ==== Sys2Proof/Machine/Csr.lean ====
section
/-! DEFINITION. The control registers: their names, addresses, access types, reset values, writable bits and legal values
(10_state.md R71 to R125), and the file that holds the read-write ones. -/

namespace Sys2Proof.Machine

/-- The read-write CSRs of R72. -/
inductive Rw where
  | mode | stageEn | blockLen | fsIn | hbStages | dcbK | agcTarget | agcMin | agcAttack | agcRelease | agcEnv
  | iqbMu | iqbThr | tedSps | tedGainQ20 | costasAlpha | costasBeta | costasMaxf | eqCfg | eqMuQ15 | eqStride
  | eqCmaWarmup | eqWlGateQ15 | eqTapSel | lfllKp | lfllKi | lfllDeadbandQ14 | lfllSlewQ15 | deemphCfg
  | deemphTauNfmNs | chlpfCfg | chlpfFc0 | chlpfFc1 | chlpfFc2 | chlpfFc3 | chlpfFc4 | chlpfFc5 | chlpfTw0
  | chlpfTw1 | chlpfTw2 | chlpfTw3 | chlpfTw4 | chlpfTw5 | alpfFc | rsL | rsM | rsK | symScale | slMsize
  | slSsize | slBufSel | syncPol | syncProtoEn | syncTol | permThr
deriving DecidableEq, Repr

/-- The read-only CSRs of R72: each reads the state now (R222). -/
inductive Ro where
  | id | agcGain | iqbAlphaRe | iqbAlphaIm | tedMu | tedOmega | costasPhase | costasFreq | costasErr
  | befllPhase | befllFreq | eqTapRe | eqTapIm | lfllFreq | slMax | slMin | slCenter | slUmid | slLmid
  | slMaxref | slMinref | slMidx | slBufVal | synctype | lastsynctype | permState | dmrBal | dmrGain | dmrBest
  | symcount | syncPos
deriving DecidableEq, Repr

/-- A CSR of R72, by access type (R71). STATUS is the one W1C register (R74). -/
inductive Csr where
  | status
  | rw (r : Rw)
  | ro (r : Ro)
deriving DecidableEq, Repr

/-- The address column of R72. -/
def Rw.addr : Rw → BitVec 12
  | .mode => 0x002#12
  | .stageEn => 0x003#12
  | .blockLen => 0x004#12
  | .fsIn => 0x005#12
  | .hbStages => 0x007#12
  | .dcbK => 0x008#12
  | .agcTarget => 0x010#12
  | .agcMin => 0x011#12
  | .agcAttack => 0x012#12
  | .agcRelease => 0x013#12
  | .agcEnv => 0x014#12
  | .iqbMu => 0x018#12
  | .iqbThr => 0x019#12
  | .tedSps => 0x020#12
  | .tedGainQ20 => 0x021#12
  | .costasAlpha => 0x028#12
  | .costasBeta => 0x029#12
  | .costasMaxf => 0x02A#12
  | .eqCfg => 0x038#12
  | .eqMuQ15 => 0x039#12
  | .eqStride => 0x03A#12
  | .eqCmaWarmup => 0x03B#12
  | .eqWlGateQ15 => 0x03C#12
  | .eqTapSel => 0x03D#12
  | .lfllKp => 0x040#12
  | .lfllKi => 0x041#12
  | .lfllDeadbandQ14 => 0x042#12
  | .lfllSlewQ15 => 0x043#12
  | .deemphCfg => 0x048#12
  | .deemphTauNfmNs => 0x049#12
  | .chlpfCfg => 0x050#12
  | .chlpfFc0 => 0x051#12
  | .chlpfFc1 => 0x052#12
  | .chlpfFc2 => 0x053#12
  | .chlpfFc3 => 0x054#12
  | .chlpfFc4 => 0x055#12
  | .chlpfFc5 => 0x056#12
  | .chlpfTw0 => 0x058#12
  | .chlpfTw1 => 0x059#12
  | .chlpfTw2 => 0x05A#12
  | .chlpfTw3 => 0x05B#12
  | .chlpfTw4 => 0x05C#12
  | .chlpfTw5 => 0x05D#12
  | .alpfFc => 0x060#12
  | .rsL => 0x061#12
  | .rsM => 0x062#12
  | .rsK => 0x063#12
  | .symScale => 0x068#12
  | .slMsize => 0x070#12
  | .slSsize => 0x071#12
  | .slBufSel => 0x07A#12
  | .syncPol => 0x080#12
  | .syncProtoEn => 0x081#12
  | .syncTol => 0x082#12
  | .permThr => 0x085#12

/-- The address column of R72. -/
def Ro.addr : Ro → BitVec 12
  | .id => 0x000#12
  | .agcGain => 0x015#12
  | .iqbAlphaRe => 0x01A#12
  | .iqbAlphaIm => 0x01B#12
  | .tedMu => 0x022#12
  | .tedOmega => 0x023#12
  | .costasPhase => 0x02B#12
  | .costasFreq => 0x02C#12
  | .costasErr => 0x02D#12
  | .befllPhase => 0x030#12
  | .befllFreq => 0x031#12
  | .eqTapRe => 0x03E#12
  | .eqTapIm => 0x03F#12
  | .lfllFreq => 0x044#12
  | .slMax => 0x072#12
  | .slMin => 0x073#12
  | .slCenter => 0x074#12
  | .slUmid => 0x075#12
  | .slLmid => 0x076#12
  | .slMaxref => 0x077#12
  | .slMinref => 0x078#12
  | .slMidx => 0x079#12
  | .slBufVal => 0x07B#12
  | .synctype => 0x083#12
  | .lastsynctype => 0x084#12
  | .permState => 0x086#12
  | .dmrBal => 0x088#12
  | .dmrGain => 0x089#12
  | .dmrBest => 0x08A#12
  | .symcount => 0x0A0#12
  | .syncPos => 0x0A1#12

/-- Every read-write CSR, in address order. -/
def allRw : List Rw :=
  [.mode, .stageEn, .blockLen, .fsIn, .hbStages, .dcbK, .agcTarget, .agcMin, .agcAttack, .agcRelease, .agcEnv,
    .iqbMu, .iqbThr, .tedSps, .tedGainQ20, .costasAlpha, .costasBeta, .costasMaxf, .eqCfg, .eqMuQ15, .eqStride,
    .eqCmaWarmup, .eqWlGateQ15, .eqTapSel, .lfllKp, .lfllKi, .lfllDeadbandQ14, .lfllSlewQ15, .deemphCfg,
    .deemphTauNfmNs, .chlpfCfg, .chlpfFc0, .chlpfFc1, .chlpfFc2, .chlpfFc3, .chlpfFc4, .chlpfFc5, .chlpfTw0,
    .chlpfTw1, .chlpfTw2, .chlpfTw3, .chlpfTw4, .chlpfTw5, .alpfFc, .rsL, .rsM, .rsK, .symScale, .slMsize,
    .slSsize, .slBufSel, .syncPol, .syncProtoEn, .syncTol, .permThr]

/-- Every read-only CSR, in address order. -/
def allRo : List Ro :=
  [.id, .agcGain, .iqbAlphaRe, .iqbAlphaIm, .tedMu, .tedOmega, .costasPhase, .costasFreq, .costasErr,
    .befllPhase, .befllFreq, .eqTapRe, .eqTapIm, .lfllFreq, .slMax, .slMin, .slCenter, .slUmid, .slLmid,
    .slMaxref, .slMinref, .slMidx, .slBufVal, .synctype, .lastsynctype, .permState, .dmrBal, .dmrGain,
    .dmrBest, .symcount, .syncPos]

/-- The CSR map of R72: every mapped register with its address. -/
def csrMap : List (BitVec 12 × Csr) :=
  (0x001#12, .status) :: (allRw.map (fun r => (r.addr, .rw r)) ++ allRo.map (fun r => (r.addr, .ro r)))

/-- The register at a CSR number, none where R72 lists none (R71: `BAD_CSR`). -/
def Csr.ofAddr (a : BitVec 12) : Option Csr := (csrMap.find? (fun e => e.1 == a)).map (fun e => e.2)

/-- The reset column of R72. -/
def Rw.resetValue : Rw → Word
  | .mode => 0x00000001#32
  | .stageEn => 0x00000002#32
  | .blockLen => 0x00004000#32
  | .fsIn => 0x00000000#32
  | .hbStages => 0x00000000#32
  | .dcbK => 0x0000000C#32
  | .agcTarget => 0x3E99999A#32
  | .agcMin => 0x3D75C28F#32
  | .agcAttack => 0x3D800000#32
  | .agcRelease => 0x3B800000#32
  | .agcEnv => 0x3C800000#32
  | .iqbMu => 0x3A800000#32
  | .iqbThr => 0x3C23D70A#32
  | .tedSps => 0x00000005#32
  | .tedGainQ20 => 0x00004000#32
  | .costasAlpha => 0x3D23D70A#32
  | .costasBeta => 0x39D1B717#32
  | .costasMaxf => 0x3E99999A#32
  | .eqCfg => 0x00080001#32
  | .eqMuQ15 => 0x00000100#32
  | .eqStride => 0x00000001#32
  | .eqCmaWarmup => 0x000004B0#32
  | .eqWlGateQ15 => 0x00000CCD#32
  | .eqTapSel => 0x00000000#32
  | .lfllKp => 0x00000000#32
  | .lfllKi => 0x00000000#32
  | .lfllDeadbandQ14 => 0x00000000#32
  | .lfllSlewQ15 => 0x00000000#32
  | .deemphCfg => 0x00000000#32
  | .deemphTauNfmNs => 0x00000000#32
  | .chlpfCfg => 0x00000000#32
  | .chlpfFc0 => 0x00000000#32
  | .chlpfFc1 => 0x00000000#32
  | .chlpfFc2 => 0x00000000#32
  | .chlpfFc3 => 0x00000000#32
  | .chlpfFc4 => 0x00000000#32
  | .chlpfFc5 => 0x00000000#32
  | .chlpfTw0 => 0x00000000#32
  | .chlpfTw1 => 0x00000000#32
  | .chlpfTw2 => 0x00000000#32
  | .chlpfTw3 => 0x00000000#32
  | .chlpfTw4 => 0x00000000#32
  | .chlpfTw5 => 0x00000000#32
  | .alpfFc => 0x00000000#32
  | .rsL => 0x00000001#32
  | .rsM => 0x00000001#32
  | .rsK => 0x00000010#32
  | .symScale => 0x3F800000#32
  | .slMsize => 0x0000000F#32
  | .slSsize => 0x00000024#32
  | .slBufSel => 0x00000000#32
  | .syncPol => 0x00000000#32
  | .syncProtoEn => 0x00000211#32
  | .syncTol => 0x00000000#32
  | .permThr => 0x00000004#32

/-- The bits of a read-write CSR that are not reserved; a reserved bit reads 0 and ignores writes (R71). The bits that R79, R80,
R97, R98, R99, R109, R110, R112, R117, R119, R120, R122 and R124 do not name are taken as reserved too (DESIGN CHOICE,
notes/assumptions/19.md). -/
def Rw.mask : Rw → Word
  | .mode => 0x00000007#32
  | .stageEn => 0x007FFFFE#32
  | .blockLen => 0x0007FFFF#32
  | .fsIn => 0xFFFFFFFF#32
  | .hbStages => 0x00000007#32
  | .dcbK => 0x0000000F#32
  | .agcTarget => 0xFFFFFFFF#32
  | .agcMin => 0xFFFFFFFF#32
  | .agcAttack => 0xFFFFFFFF#32
  | .agcRelease => 0xFFFFFFFF#32
  | .agcEnv => 0xFFFFFFFF#32
  | .iqbMu => 0xFFFFFFFF#32
  | .iqbThr => 0xFFFFFFFF#32
  | .tedSps => 0x000000FF#32
  | .tedGainQ20 => 0xFFFFFFFF#32
  | .costasAlpha => 0xFFFFFFFF#32
  | .costasBeta => 0xFFFFFFFF#32
  | .costasMaxf => 0xFFFFFFFF#32
  | .eqCfg => 0x001F371F#32
  | .eqMuQ15 => 0x0000FFFF#32
  | .eqStride => 0x0000FFFF#32
  | .eqCmaWarmup => 0x0000FFFF#32
  | .eqWlGateQ15 => 0x0000FFFF#32
  | .eqTapSel => 0x0000031F#32
  | .lfllKp => 0xFFFFFFFF#32
  | .lfllKi => 0xFFFFFFFF#32
  | .lfllDeadbandQ14 => 0x0000FFFF#32
  | .lfllSlewQ15 => 0x0000FFFF#32
  | .deemphCfg => 0x00000003#32
  | .deemphTauNfmNs => 0xFFFFFFFF#32
  | .chlpfCfg => 0x00000707#32
  | .chlpfFc0 => 0xFFFFFFFF#32
  | .chlpfFc1 => 0xFFFFFFFF#32
  | .chlpfFc2 => 0xFFFFFFFF#32
  | .chlpfFc3 => 0xFFFFFFFF#32
  | .chlpfFc4 => 0xFFFFFFFF#32
  | .chlpfFc5 => 0xFFFFFFFF#32
  | .chlpfTw0 => 0xFFFFFFFF#32
  | .chlpfTw1 => 0xFFFFFFFF#32
  | .chlpfTw2 => 0xFFFFFFFF#32
  | .chlpfTw3 => 0xFFFFFFFF#32
  | .chlpfTw4 => 0xFFFFFFFF#32
  | .chlpfTw5 => 0xFFFFFFFF#32
  | .alpfFc => 0xFFFFFFFF#32
  | .rsL => 0x0000FFFF#32
  | .rsM => 0x0000FFFF#32
  | .rsK => 0x0000001F#32
  | .symScale => 0xFFFFFFFF#32
  | .slMsize => 0x000007FF#32
  | .slSsize => 0x00000FFF#32
  | .slBufSel => 0x000103FF#32
  | .syncPol => 0x000007FF#32
  | .syncProtoEn => 0x000007FF#32
  | .syncTol => 0x000000FF#32
  | .permThr => 0x000000FF#32

/-! ## Legal values of a REAL field: a NaN or infinity pattern is refused everywhere (R71) -/

/-- Finite. -/
def realFinite (d : Word) : Bool := (F32.mk d).isFinite

/-- Finite and > 0 (R81). -/
def realPos (d : Word) : Bool := realFinite d && F32.lt F32.zero ⟨d⟩

/-- Finite and ≥ 0 (R82, R87, R92). -/
def realNonneg (d : Word) : Bool := realFinite d && F32.le F32.zero ⟨d⟩

/-- Finite and 0 < v ≤ 1 (R83, R84, R86). -/
def realUnit (d : Word) : Bool := realPos d && F32.le ⟨d⟩ F32.one

/-- May `d` be written to the register? Every field must hold a legal value; reserved bits do not matter (R71, R221). -/
def Rw.legal (r : Rw) (d : Word) : Bool :=
  match r with
  | .mode => decide (d.toNat % 8 ≤ 3)
  | .stageEn => true
  | .blockLen => decide (1 ≤ d.toNat % 2 ^ 19 ∧ d.toNat % 2 ^ 19 ≤ 262144)
  | .fsIn => true
  | .hbStages => decide (d.toNat % 8 ≤ 4)
  | .dcbK => decide (10 ≤ d.toNat % 16 ∧ d.toNat % 16 ≤ 14)
  | .agcTarget => realPos d
  | .agcMin => realNonneg d
  | .agcAttack => realUnit d
  | .agcRelease => realUnit d
  | .agcEnv => realUnit d
  | .iqbMu => realUnit d
  | .iqbThr => realNonneg d
  | .tedSps => decide (2 ≤ d.toNat % 256)
  | .tedGainQ20 => true
  | .costasAlpha => realNonneg d
  | .costasBeta => realNonneg d
  | .costasMaxf => realNonneg d
  | .eqCfg => decide (d.toNat % 32 % 2 = 1 ∧ d.toNat / 2 ^ 8 % 8 ≤ 4 ∧ 4 ≤ d.toNat / 2 ^ 16 % 32 ∧ d.toNat / 2 ^ 16 % 32 ≤ 16)
  | .eqMuQ15 => true
  | .eqStride => decide (1 ≤ d.toNat % 65536)
  | .eqCmaWarmup => true
  | .eqWlGateQ15 => true
  | .eqTapSel => decide (d.toNat / 2 ^ 8 % 4 ≤ 2)
  | .lfllKp => realFinite d
  | .lfllKi => realFinite d
  | .lfllDeadbandQ14 => true
  | .lfllSlewQ15 => true
  | .deemphCfg => decide (d.toNat % 4 ≤ 2)
  | .deemphTauNfmNs => true
  | .chlpfCfg => decide (d.toNat % 8 ≤ 5 ∧ d.toNat / 2 ^ 8 % 8 ≤ 6)
  | .chlpfFc0 => true
  | .chlpfFc1 => true
  | .chlpfFc2 => true
  | .chlpfFc3 => true
  | .chlpfFc4 => true
  | .chlpfFc5 => true
  | .chlpfTw0 => true
  | .chlpfTw1 => true
  | .chlpfTw2 => true
  | .chlpfTw3 => true
  | .chlpfTw4 => true
  | .chlpfTw5 => true
  | .alpfFc => true
  | .rsL => decide (1 ≤ d.toNat % 65536 ∧ d.toNat % 65536 ≤ 1024)
  | .rsM => decide (1 ≤ d.toNat % 65536 ∧ d.toNat % 65536 ≤ 1024)
  | .rsK => decide (1 ≤ d.toNat % 32 ∧ d.toNat % 32 ≤ 16)
  | .symScale => realFinite d
  | .slMsize => decide (1 ≤ d.toNat % 2048 ∧ d.toNat % 2048 ≤ 1024)
  | .slSsize => decide (1 ≤ d.toNat % 4096 ∧ d.toNat % 4096 ≤ 2048)
  | .slBufSel => true
  | .syncPol => true
  | .syncProtoEn => true
  | .syncTol => true
  | .permThr => true

/-! ## The register file -/

/-- The stored words of the read-write CSRs, one field each under its own name (R72). -/
structure CsrFile where
  mode : Word
  stageEn : Word
  blockLen : Word
  fsIn : Word
  hbStages : Word
  dcbK : Word
  agcTarget : Word
  agcMin : Word
  agcAttack : Word
  agcRelease : Word
  agcEnv : Word
  iqbMu : Word
  iqbThr : Word
  tedSps : Word
  tedGainQ20 : Word
  costasAlpha : Word
  costasBeta : Word
  costasMaxf : Word
  eqCfg : Word
  eqMuQ15 : Word
  eqStride : Word
  eqCmaWarmup : Word
  eqWlGateQ15 : Word
  eqTapSel : Word
  lfllKp : Word
  lfllKi : Word
  lfllDeadbandQ14 : Word
  lfllSlewQ15 : Word
  deemphCfg : Word
  deemphTauNfmNs : Word
  chlpfCfg : Word
  chlpfFc0 : Word
  chlpfFc1 : Word
  chlpfFc2 : Word
  chlpfFc3 : Word
  chlpfFc4 : Word
  chlpfFc5 : Word
  chlpfTw0 : Word
  chlpfTw1 : Word
  chlpfTw2 : Word
  chlpfTw3 : Word
  chlpfTw4 : Word
  chlpfTw5 : Word
  alpfFc : Word
  rsL : Word
  rsM : Word
  rsK : Word
  symScale : Word
  slMsize : Word
  slSsize : Word
  slBufSel : Word
  syncPol : Word
  syncProtoEn : Word
  syncTol : Word
  permThr : Word
deriving DecidableEq, Repr

/-- The stored word of a read-write CSR. -/
def CsrFile.get (f : CsrFile) : Rw → Word
  | .mode => f.mode
  | .stageEn => f.stageEn
  | .blockLen => f.blockLen
  | .fsIn => f.fsIn
  | .hbStages => f.hbStages
  | .dcbK => f.dcbK
  | .agcTarget => f.agcTarget
  | .agcMin => f.agcMin
  | .agcAttack => f.agcAttack
  | .agcRelease => f.agcRelease
  | .agcEnv => f.agcEnv
  | .iqbMu => f.iqbMu
  | .iqbThr => f.iqbThr
  | .tedSps => f.tedSps
  | .tedGainQ20 => f.tedGainQ20
  | .costasAlpha => f.costasAlpha
  | .costasBeta => f.costasBeta
  | .costasMaxf => f.costasMaxf
  | .eqCfg => f.eqCfg
  | .eqMuQ15 => f.eqMuQ15
  | .eqStride => f.eqStride
  | .eqCmaWarmup => f.eqCmaWarmup
  | .eqWlGateQ15 => f.eqWlGateQ15
  | .eqTapSel => f.eqTapSel
  | .lfllKp => f.lfllKp
  | .lfllKi => f.lfllKi
  | .lfllDeadbandQ14 => f.lfllDeadbandQ14
  | .lfllSlewQ15 => f.lfllSlewQ15
  | .deemphCfg => f.deemphCfg
  | .deemphTauNfmNs => f.deemphTauNfmNs
  | .chlpfCfg => f.chlpfCfg
  | .chlpfFc0 => f.chlpfFc0
  | .chlpfFc1 => f.chlpfFc1
  | .chlpfFc2 => f.chlpfFc2
  | .chlpfFc3 => f.chlpfFc3
  | .chlpfFc4 => f.chlpfFc4
  | .chlpfFc5 => f.chlpfFc5
  | .chlpfTw0 => f.chlpfTw0
  | .chlpfTw1 => f.chlpfTw1
  | .chlpfTw2 => f.chlpfTw2
  | .chlpfTw3 => f.chlpfTw3
  | .chlpfTw4 => f.chlpfTw4
  | .chlpfTw5 => f.chlpfTw5
  | .alpfFc => f.alpfFc
  | .rsL => f.rsL
  | .rsM => f.rsM
  | .rsK => f.rsK
  | .symScale => f.symScale
  | .slMsize => f.slMsize
  | .slSsize => f.slSsize
  | .slBufSel => f.slBufSel
  | .syncPol => f.syncPol
  | .syncProtoEn => f.syncProtoEn
  | .syncTol => f.syncTol
  | .permThr => f.permThr

/-- The file after a whole-word write of one read-write CSR. -/
def CsrFile.set (f : CsrFile) (r : Rw) (v : Word) : CsrFile :=
  match r with
  | .mode => { f with mode := v }
  | .stageEn => { f with stageEn := v }
  | .blockLen => { f with blockLen := v }
  | .fsIn => { f with fsIn := v }
  | .hbStages => { f with hbStages := v }
  | .dcbK => { f with dcbK := v }
  | .agcTarget => { f with agcTarget := v }
  | .agcMin => { f with agcMin := v }
  | .agcAttack => { f with agcAttack := v }
  | .agcRelease => { f with agcRelease := v }
  | .agcEnv => { f with agcEnv := v }
  | .iqbMu => { f with iqbMu := v }
  | .iqbThr => { f with iqbThr := v }
  | .tedSps => { f with tedSps := v }
  | .tedGainQ20 => { f with tedGainQ20 := v }
  | .costasAlpha => { f with costasAlpha := v }
  | .costasBeta => { f with costasBeta := v }
  | .costasMaxf => { f with costasMaxf := v }
  | .eqCfg => { f with eqCfg := v }
  | .eqMuQ15 => { f with eqMuQ15 := v }
  | .eqStride => { f with eqStride := v }
  | .eqCmaWarmup => { f with eqCmaWarmup := v }
  | .eqWlGateQ15 => { f with eqWlGateQ15 := v }
  | .eqTapSel => { f with eqTapSel := v }
  | .lfllKp => { f with lfllKp := v }
  | .lfllKi => { f with lfllKi := v }
  | .lfllDeadbandQ14 => { f with lfllDeadbandQ14 := v }
  | .lfllSlewQ15 => { f with lfllSlewQ15 := v }
  | .deemphCfg => { f with deemphCfg := v }
  | .deemphTauNfmNs => { f with deemphTauNfmNs := v }
  | .chlpfCfg => { f with chlpfCfg := v }
  | .chlpfFc0 => { f with chlpfFc0 := v }
  | .chlpfFc1 => { f with chlpfFc1 := v }
  | .chlpfFc2 => { f with chlpfFc2 := v }
  | .chlpfFc3 => { f with chlpfFc3 := v }
  | .chlpfFc4 => { f with chlpfFc4 := v }
  | .chlpfFc5 => { f with chlpfFc5 := v }
  | .chlpfTw0 => { f with chlpfTw0 := v }
  | .chlpfTw1 => { f with chlpfTw1 := v }
  | .chlpfTw2 => { f with chlpfTw2 := v }
  | .chlpfTw3 => { f with chlpfTw3 := v }
  | .chlpfTw4 => { f with chlpfTw4 := v }
  | .chlpfTw5 => { f with chlpfTw5 := v }
  | .alpfFc => { f with alpfFc := v }
  | .rsL => { f with rsL := v }
  | .rsM => { f with rsM := v }
  | .rsK => { f with rsK := v }
  | .symScale => { f with symScale := v }
  | .slMsize => { f with slMsize := v }
  | .slSsize => { f with slSsize := v }
  | .slBufSel => { f with slBufSel := v }
  | .syncPol => { f with syncPol := v }
  | .syncProtoEn => { f with syncProtoEn := v }
  | .syncTol => { f with syncTol := v }
  | .permThr => { f with permThr := v }

/-- The file with every read-write CSR at its reset value (R72, R590). -/
def CsrFile.reset : CsrFile where
  mode := Rw.resetValue .mode
  stageEn := Rw.resetValue .stageEn
  blockLen := Rw.resetValue .blockLen
  fsIn := Rw.resetValue .fsIn
  hbStages := Rw.resetValue .hbStages
  dcbK := Rw.resetValue .dcbK
  agcTarget := Rw.resetValue .agcTarget
  agcMin := Rw.resetValue .agcMin
  agcAttack := Rw.resetValue .agcAttack
  agcRelease := Rw.resetValue .agcRelease
  agcEnv := Rw.resetValue .agcEnv
  iqbMu := Rw.resetValue .iqbMu
  iqbThr := Rw.resetValue .iqbThr
  tedSps := Rw.resetValue .tedSps
  tedGainQ20 := Rw.resetValue .tedGainQ20
  costasAlpha := Rw.resetValue .costasAlpha
  costasBeta := Rw.resetValue .costasBeta
  costasMaxf := Rw.resetValue .costasMaxf
  eqCfg := Rw.resetValue .eqCfg
  eqMuQ15 := Rw.resetValue .eqMuQ15
  eqStride := Rw.resetValue .eqStride
  eqCmaWarmup := Rw.resetValue .eqCmaWarmup
  eqWlGateQ15 := Rw.resetValue .eqWlGateQ15
  eqTapSel := Rw.resetValue .eqTapSel
  lfllKp := Rw.resetValue .lfllKp
  lfllKi := Rw.resetValue .lfllKi
  lfllDeadbandQ14 := Rw.resetValue .lfllDeadbandQ14
  lfllSlewQ15 := Rw.resetValue .lfllSlewQ15
  deemphCfg := Rw.resetValue .deemphCfg
  deemphTauNfmNs := Rw.resetValue .deemphTauNfmNs
  chlpfCfg := Rw.resetValue .chlpfCfg
  chlpfFc0 := Rw.resetValue .chlpfFc0
  chlpfFc1 := Rw.resetValue .chlpfFc1
  chlpfFc2 := Rw.resetValue .chlpfFc2
  chlpfFc3 := Rw.resetValue .chlpfFc3
  chlpfFc4 := Rw.resetValue .chlpfFc4
  chlpfFc5 := Rw.resetValue .chlpfFc5
  chlpfTw0 := Rw.resetValue .chlpfTw0
  chlpfTw1 := Rw.resetValue .chlpfTw1
  chlpfTw2 := Rw.resetValue .chlpfTw2
  chlpfTw3 := Rw.resetValue .chlpfTw3
  chlpfTw4 := Rw.resetValue .chlpfTw4
  chlpfTw5 := Rw.resetValue .chlpfTw5
  alpfFc := Rw.resetValue .alpfFc
  rsL := Rw.resetValue .rsL
  rsM := Rw.resetValue .rsM
  rsK := Rw.resetValue .rsK
  symScale := Rw.resetValue .symScale
  slMsize := Rw.resetValue .slMsize
  slSsize := Rw.resetValue .slSsize
  slBufSel := Rw.resetValue .slBufSel
  syncPol := Rw.resetValue .syncPol
  syncProtoEn := Rw.resetValue .syncProtoEn
  syncTol := Rw.resetValue .syncTol
  permThr := Rw.resetValue .permThr

end Sys2Proof.Machine
end

