-- ==== Sys2Proof/Machine/Params.lean ====
section
/-! DEFINITION. The model parameters of R8 as one argument, `Params`: the format REAL with its `rnd`, `HB_TAPS`, `WIN_ATTEN`,
`SYNC_PATTERN`, `SYNC_LEN`, `ATAN2_Q14`, `REL_SCALE` and the sizes of R143, R146 and R263, with the spec's defaults
(`Params.default`); and the constants of R6 that the stage rules use. -/

namespace Sys2Proof.Machine

variable {R : Type}

/-! ## Half-band taps and windows -/

/-- The default of `HB_TAPS`: the 7-tap half-band (−1, 0, 9, 16, 9, 0, −1)/32 (R273). -/
def hbTaps (F : RealFormat R) : List R := [-1, 0, 9, 16, 9, 0, -1].map (fun n => F.ofRat n 32)

/-- `HB_STAGES` is at most 4 (R7, R45): the cascade has four stages of state. -/
def hbStagesMax : Nat := 4

/-- The default of `WIN_ATTEN[window]` in dB, by the WINDOW value of CHLPF_CFG (R406). -/
def winAtten (window : Nat) : Nat := [53, 44, 74, 92, 27, 93, 21].getD window 0

/-! ## Sizes -/

/-- The symbol history ring (R6, R61). -/
def symHistLen : Nat := 2048

/-- `maxbuf` and `minbuf` (R6, R60). -/
def slBufLen : Nat := 1024

/-- The dibit shift register of the scanner (R62). -/
def syncSrLen : Nat := 64

/-- The feed-forward and widely-linear taps of the equalizer (R6, R54). -/
def ffeLenMax : Nat := 31

/-- The decision-feedback taps of the equalizer (R6, R54). -/
def dfeLenMax : Nat := 4

/-! ## Sync patterns -/

/-- A dibit string written in hexadecimal: `n` dibits, the more significant dibit of a digit first in time (R150);
the head of the list is the oldest dibit. -/
def dibits (n hex : Nat) : List Dibit := (List.range n).map (fun i => BitVec.ofNat 2 (hex / 4 ^ (n - 1 - i)))

/-- One entry of the scanner's pattern table `SYNC_PATTERN` (R505). -/
structure SyncEntry where
  /-- the protocol bit of SYNC_POL and SYNC_PROTO_EN (R121) -/
  proto : Nat
  normalId : Int
  /-- none where the entry is tested in normal polarity only -/
  invertedId : Option Int
  /-- oldest dibit first; none is OPEN, and an OPEN entry never matches until a `Params` supplies its pattern -/
  pattern : Option (List Dibit)
  /-- `SYNC_LEN`: the warm-start length the source lists for the protocol, or that a `Params` supplies (R506); none is the
  pattern length -/
  listedLen : Option Nat
deriving DecidableEq, Repr

/-- The warm-start length of an entry (R506). -/
def SyncEntry.syncLen (e : SyncEntry) : Nat :=
  match e.listedLen with
  | some n => n
  | none => (e.pattern.getD []).length

/-- The P25 Phase 1 frame sync, 0x5575F5FF77FF (R505). -/
def p25p1Pattern : List Dibit := dibits 24 0x5575F5FF77FF

/-- DMR BS voice. -/
def dmrBsVoice : List Dibit := dibits 24 0x755FD7DF75F7
/-- DMR BS data. -/
def dmrBsData : List Dibit := dibits 24 0xDFF57D75DF5D
/-- DMR MS voice. -/
def dmrMsVoice : List Dibit := dibits 24 0x7F7D5DD57DFD
/-- DMR MS data. -/
def dmrMsData : List Dibit := dibits 24 0xD5D7F77FD757
/-- DMR RC data. -/
def dmrRcData : List Dibit := dibits 24 0x77D55F7DFD77
/-- DMR direct mode TS1 voice. -/
def dmrTs1Voice : List Dibit := dibits 24 0x5D577F7757FF
/-- DMR direct mode TS1 data. -/
def dmrTs1Data : List Dibit := dibits 24 0xF7FDD5DDFD55
/-- DMR direct mode TS2 voice. -/
def dmrTs2Voice : List Dibit := dibits 24 0x7DFFD5F55D5F
/-- DMR direct mode TS2 data. -/
def dmrTs2Data : List Dibit := dibits 24 0xD7557F5FF7F5

/-- The default of `SYNC_PATTERN`: the pattern table of R505 in scan order, with the lengths of R506. -/
def syncTable : List SyncEntry :=
  [ ⟨0, 0, some 1, some p25p1Pattern, some 24⟩,
    ⟨1, 2, some 5, none, none⟩,
    ⟨1, 4, some 3, none, none⟩,
    ⟨2, 6, some 7, none, none⟩,
    ⟨2, 18, some 19, none, none⟩,
    ⟨3, 8, some 9, some (dibits 8 0xFF5D), some 8⟩,
    ⟨3, 16, some 17, some (dibits 8 0x55F7), some 8⟩,
    ⟨3, 76, some 77, some (dibits 8 0xDF55), some 8⟩,
    ⟨3, 86, some 87, some (dibits 8 0x75FF), some 8⟩,
    ⟨3, 98, some 99, some (dibits 8 0x7777), some 8⟩,
    ⟨4, 12, some 11, some dmrBsVoice, some 24⟩,
    ⟨4, 10, some 13, some dmrBsData, some 24⟩,
    ⟨4, 32, none, some dmrMsVoice, some 24⟩,
    ⟨4, 33, none, some dmrMsData, some 24⟩,
    ⟨4, 34, none, some dmrRcData, some 24⟩,
    ⟨4, 32, none, some dmrTs1Voice, some 24⟩,
    ⟨4, 33, none, some dmrTs1Data, some 24⟩,
    ⟨4, 32, none, some dmrTs2Voice, some 24⟩,
    ⟨4, 33, none, some dmrTs2Data, some 24⟩,
    ⟨5, 14, some 15, none, none⟩,
    ⟨6, 20, some 24, none, some 12⟩,
    ⟨6, 21, some 25, none, some 12⟩,
    ⟨6, 22, some 26, none, some 12⟩,
    ⟨6, 23, some 27, none, some 12⟩,
    ⟨7, 28, some 29, none, some 10⟩,
    ⟨8, 30, some 31, none, some 20⟩,
    ⟨9, 35, some 36, some (dibits 20 0x575D57F7FF), none⟩,
    ⟨10, 37, some 38, none, none⟩ ]

/-- The protocol bit of the DMR family (R121). -/
def dmrProto : Nat := 4

/-- The length of a DMR sync in symbols (R480). -/
def dmrSyncLen : Nat := 24

/-- The most dibits that resample-on-sync re-digitizes (R483). -/
def rosSpan : Nat := 66

/-! ## REAL constants -/

/-- 0.5. -/
def half (F : RealFormat R) : R := F.ofRat 1 2
/-- The mid-threshold factor 0.625 (R455). -/
def midFactor (F : RealFormat R) : R := F.ofRat 625 1000
/-- The reference factor 0.80 (R455). -/
def refFactor (F : RealFormat R) : R := F.ofRat 80 100
/-- `MIN_SPAN` = 1.0 (R470). -/
def minSpan (F : RealFormat R) : R := F.one
/-- The DMR equalizer loop gain 0.15 (R486). -/
def dmrLoopGain (F : RealFormat R) : R := F.ofRat 15 100
/-- The DMR balance clamp 1.047 (R486). -/
def dmrBalanceMax (F : RealFormat R) : R := F.ofRat 1047 1000
/-- The DMR gain clamp, lower bound 1.00 (R486). -/
def dmrGainMin (F : RealFormat R) : R := F.one
/-- The DMR gain clamp, upper bound 1.25 (R486). -/
def dmrGainMax (F : RealFormat R) : R := F.ofRat 125 100
/-- The legacy FLL clamp 4096 in Q15 units (R390). -/
def lfllClamp (F : RealFormat R) : R := F.ofNat 4096

/-! ## Reliability -/

/-- The default of `REL_SCALE` (R461): from the least margin `m` and the boundary spacing `h`, 0 where `h ≤ 0`, else
`min(255, floor(255·m/h))`; free where `m`, `h` or the quotient is a NaN. -/
def relScale (F : RealFormat R) (m h : R) : Rel :=
  if F.le h F.zero then 0#8
  else
    let num := F.mul (F.ofNat 255) m
    if F.isNan (F.div num h) then F.relOfNan m h
    else if F.isInf h then 0#8
    else
      match F.floorQuot num h with
      | some q => BitVec.ofNat 8 (min 255 q.toNat)
      | none => 255#8

/-! ## The parameters -/

/-- The parameters that R8 leaves to the model, an argument of the machine and no state (R40). -/
structure Params (R : Type) where
  /-- the format REAL and its `rnd` (R12) -/
  real : RealFormat R
  /-- `HB_TAPS`: any symmetric half-band set of odd length (R272, R273) -/
  hbTaps : List R
  /-- `WIN_ATTEN[window]` in dB (R406) -/
  winAtten : Nat → Nat
  /-- `CHLPF_NTAPS_MAX` (R263) -/
  chlpfNtapsMax : Nat
  /-- `SYNC_PATTERN` and `SYNC_LEN`: the rows of R505 in their order, OPEN rows supplied or not (R505, R506) -/
  syncTable : List SyncEntry
  /-- `ATAN2_Q14(y, x)`: a substitute lies in −16384..16384 and is odd in `y` for `y ≠ 0` (R396) -/
  atan2Q14 : R → R → Int
  /-- `REL_SCALE`: the reliability from the least margin and the boundary spacing (R461) -/
  relScale : R → R → Rel
  /-- `IQ_CAP` (R143) -/
  iqCap : Nat
  /-- `AUDIO_CAP` (R146) -/
  audioCap : Nat

/-- The defaults of R8 in a format, with an `ATAN2_Q14` for that format. -/
abbrev Params.ofFormat (F : RealFormat R) (atan2Q14 : R → R → Int) : Params R where
  real := F
  hbTaps := Sys2Proof.Machine.hbTaps F
  winAtten := Sys2Proof.Machine.winAtten
  chlpfNtapsMax := Config.chlpfNtapsMax
  syncTable := Sys2Proof.Machine.syncTable
  atan2Q14 := atan2Q14
  relScale := Sys2Proof.Machine.relScale F
  iqCap := Config.iqCap
  audioCap := Config.audioCap

/-- The defaults of R8 (notes/assumptions/11.md): REAL is binary32, and `ATAN2_Q14` the exact rounded angle. -/
abbrev Params.default : Params F32 := Params.ofFormat .binary32 F32.atan2Q14

/-- The pattern of row `i` of the table of R505, rows counted from 0, one for each pair of IDs. -/
def Params.pattern (p : Params R) (i : Nat) : List Dibit := ((p.syncTable[i]?).bind SyncEntry.pattern).getD []

/-- The P25 Phase 1 pattern, the expected sync of the permutation search (R505, R520). -/
def Params.p25p1 (p : Params R) : List Dibit := p.pattern 0

/-- The eight ideal DMR patterns by index: BS data and voice, MS data and voice, direct-mode TS1 data and voice, TS2 data
and voice (R481, R505). -/
def Params.dmrPatterns (p : Params R) : List (List Dibit) := [11, 10, 13, 12, 16, 15, 18, 17].map p.pattern

end Sys2Proof.Machine
end

