-- ==== Sys2Proof/Machine/State.lean ====
section
/-! DEFINITION. The state of the block as plain data (10_state.md R40 to R70, 20_memory.md R141), its value after
power-on (R590), and the reasons a step can stop. -/

namespace Sys2Proof.Machine

variable {R : Type}

/-! ## Port entries -/

/-- An `IQ_IN` entry: two's-complement 16-bit I and Q (R142). -/
structure IqSample where
  i : BitVec 16
  q : BitVec 16
deriving DecidableEq, Repr

/-- A `SYM_OUT` entry (R144). -/
structure SymEntry (R : Type) where
  dibit : Dibit
  rel : Rel
  sym : R
  idx : Word
deriving DecidableEq, Repr

/-- The `ros` part of a `SYNC_OUT` entry: the best pattern and the re-digitized dibits, oldest first (R145). -/
structure Ros where
  best : Nat
  dibits : List (Dibit × Rel)
deriving DecidableEq, Repr

/-- A `SYNC_OUT` entry (R145); `ws` = 7 says that no warm-start ran. -/
structure SyncEvent where
  synctype : Int
  pos : Word
  ws : BitVec 3
  perm : BitVec 8
  ros : Option Ros
deriving DecidableEq, Repr

/-- The six ports, each a FIFO queue, oldest entry first (R141). -/
structure Ports (R : Type) where
  iqIn : List IqSample
  cmd : List Word
  resp : List Word
  symOut : List (SymEntry R)
  syncOut : List SyncEvent
  audioOut : List (BitVec 16)
deriving DecidableEq, Repr

/-- Every port empty, as at power-on (R590). -/
def Ports.empty : Ports R := ⟨[], [], [], [], [], []⟩

/-! ## Internal state, one structure per stage -/

/-- One half-band stage: its history and the parity of its next input (R45). -/
structure HbStage (R : Type) where
  h : List (Cplx R)
  ph : Bool
deriving DecidableEq, Repr

/-- FM AGC (R47). -/
structure Agc (R : Type) where
  p : R
  g : R
deriving DecidableEq, Repr

/-- IQ balance (R49). -/
structure Iqb (R : Type) where
  c : Cplx R
  p : R
  a : Cplx R
deriving DecidableEq, Repr

/-- Band-edge FLL (R50). -/
structure BeFll (R : Type) where
  phase : R
  freq : R
  h : List (Cplx R)
  up : List (Cplx R)
  lo : List (Cplx R)
  alpha : R
  beta : R
  fmax : R
deriving DecidableEq, Repr

/-- Costas loop (R51). -/
structure Costas (R : Type) where
  phase : R
  freq : R
  error : R
  init : Bool
deriving DecidableEq, Repr

/-- Gardner TED (R52). -/
structure Ted (R : Type) where
  omega : R
  twiceSps : Nat
  mu : R
  t : R
  h : List (Cplx R)
  yprev : Cplx R
deriving DecidableEq, Repr

/-- CQPSK equalizer (R54). `b` and `d` hold the elements 1..4 of the spec at 0..3. -/
structure Equalizer (R : Type) where
  w : List (Cplx R)
  v : List (Cplx R)
  b : List (Cplx R)
  x : List (Cplx R)
  d : List (Cplx R)
  imc : Cplx R
  imp : R
  cma : Nat
  stride : Nat
  wl : Bool
  lmsPrev : Bool
deriving DecidableEq, Repr

/-- Legacy FM FLL, in Q15 frequency units (R55). -/
structure Lfll (R : Type) where
  freq : R
  integ : R
  phase : R
  prev : Cplx R
deriving DecidableEq, Repr

/-- A one-pole filter of a real stream: output and coefficient (R57). -/
structure OnePole (R : Type) where
  y : R
  a : R
deriving DecidableEq, Repr

/-- Channel LPF (R58). -/
structure ChLpf (R : Type) where
  taps : List R
  h : List (Cplx R)
deriving DecidableEq, Repr

/-- Resampler (R59): `taps` is phase-major, phase p holding the elements p·K .. p·K + K − 1. -/
structure Resamp (R : Type) where
  taps : List R
  h : List (Cplx R)
  acc : Nat
deriving DecidableEq, Repr

/-- Slicer (R60). -/
structure Slicer (R : Type) where
  max : R
  min : R
  center : R
  umid : R
  lmid : R
  maxref : R
  minref : R
  maxbuf : List R
  minbuf : List R
  midx : Nat
  fill : Nat
deriving DecidableEq, Repr

/-- Symbol history `s.sh` and payload ring `s.dr`, which share the write index `w` and the count `n` (R61). -/
structure History (R : Type) where
  v : List R
  d : List Dibit
  r : List Rel
  w : Nat
  n : Nat
deriving DecidableEq, Repr

/-- Sync state (R62). -/
structure Sync where
  type : Int
  last : Int
  sr : List Dibit
  srn : Nat
  pos : Word
deriving DecidableEq, Repr

/-- A permutation of {0, 1, 2, 3}: the corrected dibit of each raw dibit (R63, R520). -/
structure Perm where
  p0 : Dibit
  p1 : Dibit
  p2 : Dibit
  p3 : Dibit
deriving DecidableEq, Repr

/-- DMR equalizer (R64). -/
structure DmrEq (R : Type) where
  balance : R
  gain : R
  init : Bool
  best : Nat
  bvalid : Bool
deriving DecidableEq, Repr

/-- For each designed set, the CSR values it was last designed from, none before its first design (R66, R264). -/
structure DesignKey where
  hb : Option (List Word)
  be : Option (List Word)
  ted : Option (List Word)
  eq : Option (List Word)
  de : Option (List Word)
  ch : Option (List Word)
  al : Option (List Word)
  rs : Option (List Word)
deriving DecidableEq, Repr

/-- The block being processed: the local variables of `Block(N)` (R261), of the symbol step (R458) and of a detection
(R512). The MODEL's own field: the block has no register for them (R42), and between commands it is `Work.idle`. -/
structure Work (R : Type) where
  /-- the sample stream X of R261 -/
  xs : List (Cplx R)
  /-- the symbols sliced so far in this block -/
  nsym : Nat
  /-- the raw dibit of the symbol in the chain -/
  d : Dibit
  /-- the warm-start length of the detection in progress -/
  syncLen : Nat
  /-- the warm-start result code of the detection in progress, 7 = none -/
  ws : BitVec 3
  /-- the resample-on-sync record of the detection in progress -/
  ros : Option Ros
deriving DecidableEq, Repr

/-- No block in progress. -/
def Work.idle : Work R := ⟨[], 0, 0#2, 0, 7#3, none⟩

/-! ## The state -/

/-- The state of the block, `R` being the type of its REAL data (R8, R12). -/
structure State.Of (R : Type) where
  /-- the RW control registers (R72) -/
  csr : CsrFile
  /-- their copy latched for the datapath (R67) -/
  cfg : CsrFile
  /-- fs/4 rotation index, 0..3 (R44) -/
  fs4n : Nat
  /-- half-band stages 0..3 (R45) -/
  hb : List (HbStage R)
  /-- DC estimate (R46) -/
  dc : Cplx R
  agc : Agc R
  iqb : Iqb R
  be : BeFll R
  cos : Costas R
  ted : Ted R
  /-- previous symbol of the differential phasor (R53) -/
  diffPrev : Cplx R
  eq : Equalizer R
  lf : Lfll R
  /-- previous input of the discriminator (R56) -/
  discPrev : Cplx R
  /-- deemphasis (R57) -/
  de : OnePole R
  /-- audio LPF (R57) -/
  al : OnePole R
  ch : ChLpf R
  rs : Resamp R
  sl : Slicer R
  sh : History R
  sync : Sync
  /-- CQPSK permutation (R63) -/
  perm : Perm
  /-- permutation locked (R63) -/
  permLock : Bool
  dmr : DmrEq R
  /-- symbols sliced since reset, modulo 2^32 (R65) -/
  symcount : Word
  /-- STATUS.ERR (R65, R74) -/
  err : Bool
  /-- STATUS.LAST_ERR (R65, R74) -/
  lastErr : BitVec 8
  /-- STATUS.LAST_WS (R65, R74) -/
  lastWs : BitVec 3
  /-- reset-request flag `s.rr` (R70) -/
  rr : Bool
  key : DesignKey
  ports : Ports R
  /-- the MODEL's own: the block in progress -/
  work : Work R
  /-- the MODEL's own: the counter the free values of Config are applied to -/
  free : Nat
deriving DecidableEq, Repr

/-- The state of the block in the default format, binary32 (R8). -/
abbrev State := State.Of F32

/-! ## Reset values -/

/-- A half-band stage after reset: T − 1 zeros (R45). -/
def HbStage.reset (p : Params R) : HbStage R := ⟨List.replicate (p.hbTaps.length - 1) p.real.czero, false⟩

/-- The four half-band stages after reset (R45). -/
def hbReset (p : Params R) : List (HbStage R) := List.replicate hbStagesMax (HbStage.reset p)

/-- Costas state after reset (R51). -/
def Costas.reset (F : RealFormat R) : Costas R := ⟨F.zero, F.zero, F.zero, false⟩

/-- TED state for a TED_SPS value: `omega`, `twice_sps` and `t` follow it, the rest is 0 (R52). -/
def Ted.resetFor (F : RealFormat R) (sps : Nat) : Ted R :=
  ⟨F.ofNat sps, 2 * sps, F.zero, F.ofNat sps, List.replicate (2 * sps + 2) F.czero, F.czero⟩

/-- The equalizer's initial state for a feed-forward length: center tap 1.0, everything else 0 (R360). -/
def Equalizer.initFor (F : RealFormat R) (ffeLen : Nat) : Equalizer R :=
  ⟨(List.replicate ffeLenMax F.czero).set ((ffeLen - 1) / 2) (F.ofReal F.one),
    List.replicate ffeLenMax F.czero, List.replicate dfeLenMax F.czero, List.replicate ffeLenMax F.czero,
    List.replicate dfeLenMax F.czero, F.czero, F.zero, 0, 0, false, false⟩

/-- Legacy FLL state after reset (R55). -/
def Lfll.reset (F : RealFormat R) : Lfll R := ⟨F.zero, F.zero, F.zero, F.czero⟩

/-- Slicer state after reset (R60). -/
def Slicer.reset (F : RealFormat R) : Slicer R :=
  ⟨F.zero, F.zero, F.zero, F.zero, F.zero, F.zero, F.zero,
    List.replicate slBufLen F.zero, List.replicate slBufLen F.zero, 0, 0⟩

/-- Symbol history after reset (R61). -/
def History.reset (F : RealFormat R) : History R :=
  ⟨List.replicate symHistLen F.zero, List.replicate symHistLen 0#2, List.replicate symHistLen 0#8, 0, 0⟩

/-- The identity permutation (R63). -/
def Perm.identity : Perm := ⟨0#2, 1#2, 2#2, 3#2⟩

/-- No set designed yet (R66). -/
def DesignKey.none : DesignKey :=
  ⟨Option.none, Option.none, Option.none, Option.none, Option.none, Option.none, Option.none, Option.none⟩

/-- The state right after power-on (R590): every CSR and state element at its reset value, every port empty. The
designed sets, which have no value after reset, are empty; `s.be.h` has the length that TED_SPS = 5 gives it. -/
def State.resetWith (p : Params R) : State.Of R where
  csr := CsrFile.reset
  cfg := CsrFile.reset
  fs4n := 0
  hb := hbReset p
  dc := p.real.czero
  agc := ⟨p.real.zero, p.real.one⟩
  iqb := ⟨p.real.czero, p.real.zero, p.real.czero⟩
  be := ⟨p.real.zero, p.real.zero, List.replicate 10 p.real.czero, [], [], p.real.zero, p.real.zero, p.real.zero⟩
  cos := Costas.reset p.real
  ted := Ted.resetFor p.real 5
  diffPrev := p.real.czero
  eq := Equalizer.initFor p.real 1
  lf := Lfll.reset p.real
  discPrev := p.real.czero
  de := ⟨p.real.zero, p.real.zero⟩
  al := ⟨p.real.zero, p.real.zero⟩
  ch := ⟨[], []⟩
  rs := ⟨[], List.replicate 16 p.real.czero, 0⟩
  sl := Slicer.reset p.real
  sh := History.reset p.real
  sync := ⟨-1, -1, List.replicate syncSrLen 0#2, 0, 0#32⟩
  perm := Perm.identity
  permLock := false
  dmr := ⟨p.real.zero, p.real.one, false, 0, false⟩
  symcount := 0#32
  err := false
  lastErr := 0#8
  lastWs := 0#3
  rr := false
  key := DesignKey.none
  ports := Ports.empty
  work := Work.idle
  free := 0

/-- The state right after power-on of the block with the default parameters (R8, R590). -/
def State.reset : State := State.resetWith Params.default

/-! ## Reasons to stop -/

/-- The block has no fault: a command that cannot complete ends with a status in its response, and stage arithmetic never
faults (R550, R556). No meaning raises one, so the type has no constructor. Safe. -/
inductive Fault where
deriving DecidableEq, Repr

/-- The model's refusals. -/
inductive Refusal where
  /-- raised only by an arm of `exec` whose instruction has no meaning yet; no arm is left so. Safe: the machine stops -/
  | notModelled (mnemonic : String)
deriving DecidableEq, Repr

end Sys2Proof.Machine
end

