-- ==== Sys2Proof/Machine/Operands.lean ====
section
/-! DEFINITION. The operand forms: CSR fields as the stage rules read them (R75 to R122), the values the read-only CSRs show
(R73 to R125), and the IQ sample as a REAL pair (R142). -/

namespace Sys2Proof.Machine

variable {R : Type}

/-! ## Fields of the read-write CSRs -/

/-- Bits `lo + len − 1 : lo` of a read-write CSR as an unsigned integer (R10). -/
def CsrFile.field (f : CsrFile) (r : Rw) (lo len : Nat) : Nat := (f.get r).toNat / 2 ^ lo % 2 ^ len

/-- A REAL CSR: the IEEE 754 binary32 datum it holds, whatever the format REAL (R71). -/
def CsrFile.real (f : CsrFile) (r : Rw) : F32 := ⟨f.get r⟩

/-- A REAL CSR as a datum of the format (R71). -/
def CsrFile.realAs (F : RealFormat R) (f : CsrFile) (r : Rw) : R := F.ofBinary32 (f.real r)

/-- The STAGE_EN bit of a stage (R76). -/
def CsrFile.stageOn (f : CsrFile) (k : Stage) : Bool := (f.get .stageEn).getLsbD k.bit

/-- Some stage operation is enabled (R76, R223). -/
def CsrFile.anyStage (f : CsrFile) : Bool := f.get .stageEn &&& Rw.mask .stageEn != 0#32

/-- MODE = 2: the CQPSK path; every other mode is of the FM family (R75, R260). -/
def CsrFile.cqpsk (f : CsrFile) : Bool := f.field .mode 0 3 == 2

/-- BLOCK_LEN (R77). -/
def CsrFile.blockLength (f : CsrFile) : Nat := f.field .blockLen 0 19

/-- TED_SPS (R89). -/
def CsrFile.sps (f : CsrFile) : Nat := f.field .tedSps 0 8

/-- The TED loop gain `sext_32(v)/2^20` (R90, R330). -/
def CsrFile.tedGain (F : RealFormat R) (f : CsrFile) : R := F.ofRat (f.get .tedGainQ20).toInt (2 ^ 20)

/-- EQ_CFG.FFE_LEN (R95). -/
def CsrFile.ffeLen (f : CsrFile) : Nat := f.field .eqCfg 0 5
/-- EQ_CFG.DFE_LEN (R95). -/
def CsrFile.dfeLen (f : CsrFile) : Nat := f.field .eqCfg 8 3
/-- EQ_CFG.WL_EN (R95). -/
def CsrFile.wlEn (f : CsrFile) : Bool := f.field .eqCfg 12 1 == 1
/-- EQ_CFG.LMS_EN (R95). -/
def CsrFile.lmsEn (f : CsrFile) : Bool := f.field .eqCfg 13 1 == 1
/-- EQ_CFG.WL_LEAK_SHIFT (R95). -/
def CsrFile.wlLeakShift (f : CsrFile) : Nat := f.field .eqCfg 16 5
/-- The equalizer step `μ = v/32768` (R96). -/
def CsrFile.eqMu (F : RealFormat R) (f : CsrFile) : R := F.ofRat (f.field .eqMuQ15 0 16) 32768
/-- The improperness gate `v/32768` (R99). -/
def CsrFile.wlGate (F : RealFormat R) (f : CsrFile) : R := F.ofRat (f.field .eqWlGateQ15 0 16) 32768

/-- CHLPF_CFG.PROFILE (R114). -/
def CsrFile.chProfile (f : CsrFile) : Nat := f.field .chlpfCfg 0 3
/-- CHLPF_CFG.WINDOW (R114). -/
def CsrFile.chWindow (f : CsrFile) : Nat := f.field .chlpfCfg 8 3

/-- `CHLPF_FC<p>` (R115). -/
def chlpfFcOf : Nat → Rw
  | 0 => .chlpfFc0 | 1 => .chlpfFc1 | 2 => .chlpfFc2 | 3 => .chlpfFc3 | 4 => .chlpfFc4 | _ => .chlpfFc5

/-- `CHLPF_TW<p>` (R115). -/
def chlpfTwOf : Nat → Rw
  | 0 => .chlpfTw0 | 1 => .chlpfTw1 | 2 => .chlpfTw2 | 3 => .chlpfTw3 | 4 => .chlpfTw4 | _ => .chlpfTw5

/-- The cutoff of the selected profile in Hz (R115). -/
def CsrFile.chFc (f : CsrFile) : Nat := (f.get (chlpfFcOf f.chProfile)).toNat
/-- The transition width of the selected profile in Hz (R115). -/
def CsrFile.chTw (f : CsrFile) : Nat := (f.get (chlpfTwOf f.chProfile)).toNat

/-- RS_L and RS_M divided by their greatest common divisor (R59, R430). -/
def CsrFile.ratio (f : CsrFile) : Nat × Nat :=
  let l := f.field .rsL 0 16
  let m := f.field .rsM 0 16
  (l / Nat.gcd l m, m / Nat.gcd l m)

/-- RS_K (R117). -/
def CsrFile.rsTaps (f : CsrFile) : Nat := f.field .rsK 0 5

/-! ## Rates and the configuration check -/

/-- `H`: the half-band stages that run, HB_STAGES where STAGE_EN.HB is 1, else 0 (R263). -/
def CsrFile.halvings (f : CsrFile) : Nat := if f.stageOn .hb then f.field .hbStages 0 3 else 0

/-- `fs_mid = FS_IN / 2^H` as a REAL (R263, R265). -/
def CsrFile.fsMid (F : RealFormat R) (f : CsrFile) : R := F.ofRat (f.get .fsIn).toNat (2 ^ f.halvings)

/-- The designed tap count: `ceil(A·fs/(22·Δf))` of the integers, made odd (R404). -/
def CsrFile.chNtaps (p : Params R) (f : CsrFile) : Nat :=
  let num := p.winAtten f.chWindow * (f.get .fsIn).toNat
  let den := 22 * f.chTw * 2 ^ f.halvings
  let n := (num + den - 1) / den
  if n % 2 = 0 then n + 1 else n

/-- The channel LPF configuration that R263 (b) accepts. -/
def CsrFile.chOk (p : Params R) (f : CsrFile) : Bool :=
  (f.get .fsIn).toNat != 0 && f.chFc != 0 && f.chTw != 0 && decide (f.chFc * 2 ^ (f.halvings + 1) < (f.get .fsIn).toNat)
    && decide (f.chNtaps p ≤ p.chlpfNtapsMax)

/-- `config_ok` (R263). -/
def CsrFile.configOk (p : Params R) (f : CsrFile) : Bool :=
  !(!f.cqpsk && f.stageOn .deemph && (f.get .fsIn).toNat == 0)
    && !(f.stageOn .chlpf && !f.chOk p)
    && !(!f.cqpsk && f.stageOn .alpf && ((f.get .fsIn).toNat == 0 || (f.get .alpfFc).toNat == 0))

/-! ## What the state says of itself -/

/-- The latched STAGE_EN bit of a stage (R67, R76). -/
def State.Of.on (s : State.Of R) (k : Stage) : Bool := s.cfg.stageOn k

/-- The block runs on the CQPSK path (R260). -/
def State.Of.cq (s : State.Of R) : Bool := s.cfg.cqpsk

/-- The corrected dibit of a raw dibit (R520). -/
def Perm.apply (p : Perm) (x : Dibit) : Dibit :=
  if x = 0#2 then p.p0 else if x = 1#2 then p.p1 else if x = 2#2 then p.p2 else p.p3

/-- PERM_STATE[7:0] (R124). -/
def Perm.bits (p : Perm) : BitVec 8 := p.p3 ++ p.p2 ++ p.p1 ++ p.p0

/-- An `IQ_IN` entry over a byte transport (R149). -/
def IqSample.bytes (x : IqSample) : List (BitVec 8) := iqBytes x.i x.q

/-- An `IQ_IN` entry as a complex sample: `I/32768 + j·Q/32768` (R142). -/
def IqSample.toCplx (F : RealFormat R) (x : IqSample) : Cplx R :=
  ⟨F.ofRat x.i.toInt 32768, F.ofRat x.q.toInt 32768⟩

/-! ## What a CSR reads -/

/-- What a CSR holds when it is read: a plain word, or a REAL to be shown as its binary32 pattern (R71). -/
inductive CsrValue where
  | word (w : Word)
  | real (x : F32)
deriving DecidableEq, Repr

/-- The equalizer tap that EQ_TAP_SEL selects; any selection without a tap reads 0 (R100, R107). -/
def State.Of.selectedTap (F : RealFormat R) (s : State.Of R) : Cplx R :=
  let i := s.csr.field .eqTapSel 0 5
  match s.csr.field .eqTapSel 8 2 with
  | 0 => if i ≤ 30 then s.eq.w.getD i F.czero else F.czero
  | 1 => if i ≤ 30 then s.eq.v.getD i F.czero else F.czero
  | 2 => if 1 ≤ i ∧ i ≤ 4 then s.eq.b.getD (i - 1) F.czero else F.czero
  | _ => F.czero

/-- The slicer buffer entry that SL_BUF_SEL selects (R120). -/
def State.Of.selectedBuf (F : RealFormat R) (s : State.Of R) : R :=
  let i := s.csr.field .slBufSel 0 10
  if s.csr.field .slBufSel 16 1 = 0 then s.sl.maxbuf.getD i F.zero else s.sl.minbuf.getD i F.zero

/-- The value of a read-only CSR, computed from the state now (R73, R85 to R125). -/
def State.Of.roValue (F : RealFormat R) (s : State.Of R) : Ro → CsrValue
  | .id => .word 0x44534E05#32
  | .agcGain => .real (F.toBinary32 s.agc.g)
  | .iqbAlphaRe => .real (F.toBinary32 s.iqb.a.re)
  | .iqbAlphaIm => .real (F.toBinary32 s.iqb.a.im)
  | .tedMu => .real (F.toBinary32 s.ted.mu)
  | .tedOmega => .real (F.toBinary32 s.ted.omega)
  | .costasPhase => .real (F.toBinary32 s.cos.phase)
  | .costasFreq => .real (F.toBinary32 s.cos.freq)
  | .costasErr => .real (F.toBinary32 s.cos.error)
  | .befllPhase => .real (F.toBinary32 s.be.phase)
  | .befllFreq => .real (F.toBinary32 s.be.freq)
  | .eqTapRe => .real (F.toBinary32 (s.selectedTap F).re)
  | .eqTapIm => .real (F.toBinary32 (s.selectedTap F).im)
  | .lfllFreq => .real (F.toBinary32 s.lf.freq)
  | .slMax => .real (F.toBinary32 s.sl.max)
  | .slMin => .real (F.toBinary32 s.sl.min)
  | .slCenter => .real (F.toBinary32 s.sl.center)
  | .slUmid => .real (F.toBinary32 s.sl.umid)
  | .slLmid => .real (F.toBinary32 s.sl.lmid)
  | .slMaxref => .real (F.toBinary32 s.sl.maxref)
  | .slMinref => .real (F.toBinary32 s.sl.minref)
  | .slMidx => .word (BitVec.ofNat 32 (s.sl.midx % 1024))
  | .slBufVal => .real (F.toBinary32 (s.selectedBuf F))
  | .synctype => .word (BitVec.ofInt 32 s.sync.type)
  | .lastsynctype => .word (BitVec.ofInt 32 s.sync.last)
  | .permState => .word ((BitVec.ofBool s.permLock ++ s.perm.bits).setWidth 32)
  | .dmrBal => .real (F.toBinary32 s.dmr.balance)
  | .dmrGain => .real (F.toBinary32 s.dmr.gain)
  | .dmrBest => .word ((BitVec.ofBool s.dmr.bvalid ++ (0#5 ++ BitVec.ofNat 3 s.dmr.best)).setWidth 32)
  | .symcount => .word s.symcount
  | .syncPos => .word s.sync.pos

/-- A NaN pattern whose sign and fraction are those of `w`, the fraction made nonzero. -/
def nanWord (w : Word) : Word :=
  if w &&& 0x007FFFFF#32 = 0#32 then (w ||| 0x7F800000#32) ||| 1#32 else w ||| 0x7F800000#32

/-- The word a REAL shows on a read: its pattern, and for a NaN, whose payload nothing fixes, the NaN pattern of the free
word `w`. -/
def shownWord (x : F32) (w : Word) : Word := if x.isNan then nanWord w else x.bits

/-- The word of the select register that picks what a read-only CSR reads, 0 where it has none (R107, R120). -/
def State.Of.selection (s : State.Of R) : Ro → Word
  | .eqTapRe => s.csr.get .eqTapSel
  | .eqTapIm => s.csr.get .eqTapSel
  | .slBufVal => s.csr.get .slBufSel
  | _ => 0#32

/-- The word a read-only CSR shows (R222). -/
def State.Of.roWord (F : RealFormat R) (s : State.Of R) (r : Ro) : Word :=
  match s.roValue F r with
  | .word w => w
  | .real x => shownWord x (Config.nanPattern s.free r.addr (s.selection r))

end Sys2Proof.Machine
end

