-- ==== Sys2Proof/Machine/Flags.lean ====
section
/-! DEFINITION. The flags: STATUS as it is read (R74, R127), the response status codes (R191), and the warm-start result
codes (R193). -/

namespace Sys2Proof.Machine

variable {R : Type}

/-- STATUS as a read shows it (R74): ERR, RR, SYNC_VALID, PERM_LOCK, COSTAS_INIT, DMR_EQ_INIT, WL_ACTIVE in bits 0 to 6,
bit 7 reserved, LAST_ERR in 15:8, LAST_WS in 18:16, the rest reserved. -/
def State.Of.status (s : State.Of R) : Word :=
  0#13 ++ s.lastWs ++ s.lastErr ++ 0#1 ++ BitVec.ofBool s.eq.wl ++ BitVec.ofBool s.dmr.init ++ BitVec.ofBool s.cos.init
    ++ BitVec.ofBool s.permLock ++ BitVec.ofBool (decide (s.sync.type ≠ -1)) ++ BitVec.ofBool s.rr ++ BitVec.ofBool s.err

/-- The response status codes (R191). -/
inductive Status where
  | ok | illegalOp | badFormat | badCsr | roCsr | badValue | badConfig
deriving DecidableEq, Repr

/-- The code column of R191. -/
def Status.code : Status → BitVec 8
  | .ok => 0x00#8
  | .illegalOp => 0x01#8
  | .badFormat => 0x02#8
  | .badCsr => 0x03#8
  | .roCsr => 0x04#8
  | .badValue => 0x05#8
  | .badConfig => 0x06#8

/-- The warm-start results (R193). NULL_STATE is never produced. -/
inductive WsResult where
  | ok | disabled | noHistory | degenerate | nullState
deriving DecidableEq, Repr

/-- The result codes of R193. -/
def WsResult.code : WsResult → BitVec 3
  | .ok => 0#3
  | .disabled => 1#3
  | .noHistory => 2#3
  | .degenerate => 3#3
  | .nullState => 4#3

/-- The code that says no warm-start ran (R193, R145). -/
def wsNone : BitVec 3 := 7#3

end Sys2Proof.Machine
end

