-- ==== Sys2Proof/Machine/Ops.lean ====
section
/-! DEFINITION. The named operations the meanings share: the FIFO ports and the other agents' access to them (R141 to
R148, R576), the end of a command and the raising of an error (R190, R552), the CSR accesses (R221, R222), the latch
(R67) and the symbol history (R459). The block has no byte-addressed memory (R140). -/

namespace Sys2Proof.Machine

variable {R : Type}

/-! ## Ports -/

/-- The producer appends an entry to a ring of capacity `cap`: a full ring drops the new entry (R143). A ring of capacity 0 or 1
is always full (notes/assumptions/25.md). -/
def appendDropNew {α : Type} (cap : Nat) (q : List α) (e : α) : List α :=
  if q.length < cap - 1 then q ++ [e] else q

/-- The block appends an entry to a ring of capacity `cap`: a full ring first loses its oldest entry (R146). With capacity 0 or
1, where R146 cannot hold whole, the newest entry stays (DESIGN CHOICE, notes/assumptions/25.md). -/
def appendDropOld {α : Type} (cap : Nat) (q : List α) (e : α) : List α :=
  if q.length < cap - 1 then q ++ [e] else q.drop 1 ++ [e]

/-- The producer appends one sample to `IQ_IN` (R143, R577). -/
def State.Of.produce (p : Params R) (s : State.Of R) (x : IqSample) : State.Of R :=
  { s with ports := { s.ports with iqIn := appendDropNew p.iqCap s.ports.iqIn x } }

/-- The host writes one word to `CMD` (R147, R577). -/
def State.Of.hostWrite (s : State.Of R) (w : Word) : State.Of R :=
  { s with ports := { s.ports with cmd := s.ports.cmd ++ [w] } }

/-- The host takes the oldest response word (R152: a pop is destructive). -/
def State.Of.popResp (s : State.Of R) : Option Word × State.Of R :=
  (s.ports.resp.head?, { s with ports := { s.ports with resp := s.ports.resp.drop 1 } })

/-- A consumer takes the oldest symbol. -/
def State.Of.popSym (s : State.Of R) : Option (SymEntry R) × State.Of R :=
  (s.ports.symOut.head?, { s with ports := { s.ports with symOut := s.ports.symOut.drop 1 } })

/-- A consumer takes the oldest sync event. -/
def State.Of.popSync (s : State.Of R) : Option SyncEvent × State.Of R :=
  (s.ports.syncOut.head?, { s with ports := { s.ports with syncOut := s.ports.syncOut.drop 1 } })

/-- The audio consumer takes the oldest sample. -/
def State.Of.popAudio (s : State.Of R) : Option (BitVec 16) × State.Of R :=
  (s.ports.audioOut.head?, { s with ports := { s.ports with audioOut := s.ports.audioOut.drop 1 } })

/-- `SymPush(e)` (R16, R144). -/
def State.Of.symPush (s : State.Of R) (e : SymEntry R) : State.Of R :=
  { s with ports := { s.ports with symOut := s.ports.symOut ++ [e] } }

/-- `SyncPush(e)` (R16, R145). -/
def State.Of.syncPush (s : State.Of R) (e : SyncEvent) : State.Of R :=
  { s with ports := { s.ports with syncOut := s.ports.syncOut ++ [e] } }

/-- `AudioPush(v)` (R16, R146). -/
def State.Of.audioPush (p : Params R) (s : State.Of R) (v : BitVec 16) : State.Of R :=
  { s with ports := { s.ports with audioOut := appendDropOld p.audioCap s.ports.audioOut v } }

/-! ## The end of a command -/

/-- A command ends: its `words` command words are consumed, and its response word, with the data word of a successful
`CSRR` after it, is pushed to `RESP` (R190). -/
def State.Of.respond (s : State.Of R) (words : Nat) (st : Status) (payload : BitVec 24) (data : List Word) : State.Of R :=
  { s with ports :=
      { s.ports with cmd := s.ports.cmd.drop words, resp := s.ports.resp ++ (st.code ++ payload) :: data } }

/-- A command ends with status OK. -/
def State.Of.done (s : State.Of R) (words : Nat) (payload : BitVec 24) : State.Of R := s.respond words .ok payload []

/-- `raise E` (R552): STATUS.ERR is set, STATUS.LAST_ERR records the code, the response carries it, and nothing else
changes. The block has no trap, so there is no return from one (R550, R561). -/
def State.Of.raise (s : State.Of R) (words : Nat) (e : Status) : State.Of R :=
  { s with err := true, lastErr := e.code }.respond words e 0#24 []

/-! ## CSR accesses -/

/-- A legal write of a read-write CSR: the word is stored with every reserved bit 0 (R71, R221). -/
def State.Of.writeRw (s : State.Of R) (r : Rw) (d : Word) : State.Of R := { s with csr := s.csr.set r (d &&& r.mask) }

/-- A write of STATUS: bit 0 set clears ERR, and nothing else changes (R74). -/
def State.Of.writeStatus (s : State.Of R) (d : Word) : State.Of R := { s with err := s.err && !d.getLsbD 0 }

/-- The word a read of a CSR returns (R222). A read has no side effect (R152), so it gives no state. -/
def State.Of.readCsr (F : RealFormat R) (s : State.Of R) : Csr → Word
  | .status => s.status
  | .rw r => s.csr.get r
  | .ro r => s.roWord F r

/-- `latch()`: `s.cfg` becomes the copy of every RW CSR (R67, R262). Every command that runs the datapath latches first, so
the MODEL's counter of free values moves on here: a NaN that the command leaves may have a pattern of its own. -/
def State.Of.latch (s : State.Of R) : State.Of R := { s with cfg := s.csr, free := s.free + 1 }

/-- `power_on_state()` (R590): everything but the ports takes its reset value. The counter of the free values goes on. -/
def State.Of.powerOn (p : Params R) (s : State.Of R) : State.Of R := { State.resetWith p with ports := s.ports, free := s.free }

/-! ## Symbol history -/

/-- The place of the `i`-th most recent symbol in the rings (R459). -/
def History.back (h : History R) (i : Nat) : Nat := (h.w + symHistLen - 1 - i) % symHistLen

/-- `H(i)`: the `i`-th most recent slicer input (R459). -/
def History.value (F : RealFormat R) (h : History R) (i : Nat) : R := h.v.getD (h.back i) F.zero

/-- `HD(i)`: its dibit (R459). -/
def History.dibit (h : History R) (i : Nat) : Dibit := h.d.getD (h.back i) 0#2

/-- `HR(i)`: its reliability (R459). -/
def History.reliability (h : History R) (i : Nat) : Rel := h.r.getD (h.back i) 0#8

/-- `H(0) … H(n−1)`, newest first. -/
def History.newest (F : RealFormat R) (h : History R) (n : Nat) : List R := (List.range n).map (h.value F)

/-- `HistPush(x, d, r)` (R459). -/
def History.push (h : History R) (x : R) (d : Dibit) (r : Rel) : History R :=
  ⟨h.v.set h.w x, h.d.set h.w d, h.r.set h.w r, (h.w + 1) % symHistLen, min (h.n + 1) symHistLen⟩

/-- `HD(i) <- d; HR(i) <- r` (R483). -/
def History.rewrite (h : History R) (i : Nat) (d : Dibit) (r : Rel) : History R :=
  { h with d := h.d.set (h.back i) d, r := h.r.set (h.back i) r }

end Sys2Proof.Machine
end

