-- ==== Sys2Proof/Machine/Design.lean ====
section
/-! DEFINITION. The designed coefficient sets and the design step: `Design()` (R264), band-edge filters and gains (R310,
R311), deemphasis (R400), channel LPF and windows (R404, R405), audio LPF (R420), resampler (R430); and the retune reset
(R592). -/

namespace Sys2Proof.Machine

variable {R : Type}

/-! ## Band-edge FLL -/

/-- `sinc(x)` (R15). -/
def sinc (F : RealFormat R) (x : R) : R :=
  if F.isZero x then F.one
  else
    let px := F.mul F.pi x
    F.div (F.sin px) px

/-- The rolloff ρ = 0.2 (R310). -/
def rolloff (F : RealFormat R) : R := F.ofRat 2 10

/-- The prototype `bb(n)` (R310). -/
def bePrototype (F : RealFormat R) (sps n : Nat) : R :=
  let kb := F.add (F.ofInt (-2)) (F.div (F.ofNat (2 * n)) (F.ofNat sps))
  let rk := F.mul (rolloff F) kb
  F.add (sinc F (F.sub rk (half F))) (sinc F (F.add rk (half F)))

/-- `2·sps + 1` prototype values (R310). -/
def bePrototypes (F : RealFormat R) (sps : Nat) : List R := (List.range (2 * sps + 1)).map (bePrototype F sps)

/-- The angle `2π·(1 + ρ)·c(n)` with `c(n) = (n − (Nbe − 1)/2)/(2·sps)` (R310). -/
def beAngle (F : RealFormat R) (sps n : Nat) : R :=
  F.mul (F.mul F.twoPi (F.add F.one (rolloff F)))
    (F.div (F.ofInt ((n : Int) - sps)) (F.ofNat (2 * sps)))

/-- The band-edge taps; `lower` picks the sign of the angle (R310). -/
def beTaps (F : RealFormat R) (sps : Nat) (lower : Bool) : List (Cplx R) :=
  let bb := bePrototypes F sps
  let total := F.sum bb
  bb.zipIdx.map (fun e =>
    let a := beAngle F sps e.2
    F.scale (F.div e.1 total) (F.expj (if lower then F.neg a else a)))

/-- The loop bandwidth `ω = 2π/(sps·250)` (R311). -/
def beOmega (F : RealFormat R) (sps : Nat) : R := F.div F.twoPi (F.ofNat (sps * 250))

/-- The damping `ζ = √2/2` (R311). -/
def beZeta (F : RealFormat R) : R := F.div (F.sqrt (F.ofNat 2)) (F.ofNat 2)

/-- `1 + 2·ζ·ω + ω²` (R311). -/
def beDenom (F : RealFormat R) (w : R) : R :=
  F.add (F.add F.one (F.mul (F.mul (F.ofNat 2) (beZeta F)) w)) (F.mul w w)

/-- The band-edge set for a TED_SPS value, with the history cleared (R264, R310, R311). A frequency outside the new `fmax` is
kept until the next sample (DESIGN CHOICE, notes/assumptions/27.md). -/
def beDesign (F : RealFormat R) (sps : Nat) (b : BeFll R) : BeFll R :=
  let w := beOmega F sps
  { b with
    h := List.replicate (2 * sps) F.czero
    up := beTaps F sps false
    lo := beTaps F sps true
    alpha := F.div (F.mul (F.mul (F.ofNat 4) (beZeta F)) w) (beDenom F w)
    beta := F.div (F.mul (F.ofNat 4) (F.mul w w)) (beDenom F w)
    fmax := F.div (F.mul F.twoPi (F.ofNat 2)) (F.ofNat sps) }

/-! ## One-pole coefficients -/

/-- The deemphasis time constant τ in seconds (R400). -/
def deTau (F : RealFormat R) (cfg : CsrFile) : R :=
  match cfg.field .deemphCfg 0 2 with
  | 1 => F.ofRat 50 1000000
  | 2 => F.ofRat 75 1000000
  | _ => F.mul (F.ofNat (cfg.get .deemphTauNfmNs).toNat) (F.ofRat 1 1000000000)

/-- The deemphasis coefficient (R400). -/
def deCoeff (F : RealFormat R) (cfg : CsrFile) : R :=
  let tau := deTau F cfg
  if F.isZero tau then F.one
  else F.sub F.one (F.exp (F.div (F.neg F.one) (F.mul tau (cfg.fsMid F))))

/-- The audio LPF coefficient `1 − exp(−2π·ALPF_FC/fs)` (R420). -/
def alCoeff (F : RealFormat R) (cfg : CsrFile) : R :=
  F.sub F.one (F.exp (F.div (F.mul (F.neg F.twoPi) (F.ofNat (cfg.get .alpfFc).toNat)) (cfg.fsMid F)))

/-! ## Channel LPF -/

/-- `c0 − c1·cos x + c2·cos 2x − c3·cos 3x + c4·cos 4x`, ending with the last coefficient given; coefficients are over
100000 (R405). The signs alternate. -/
def cosineWindow (F : RealFormat R) (x : R) (first : Nat) (rest : List Nat) : R :=
  rest.zipIdx.foldl
    (fun acc e =>
      let term := F.mul (F.ofRat e.1 100000)
        (F.cos (if e.2 = 0 then x else F.mul (F.ofNat (e.2 + 1)) x))
      if e.2 % 2 = 0 then F.sub acc term else F.add acc term)
    (F.ofRat first 100000)

/-- `win(wnd, n, Mw)` (R405). -/
def windowValue (F : RealFormat R) (wnd n mw : Nat) : R :=
  if mw = 0 then F.one
  else
    let x := F.div (F.mul F.twoPi (F.ofNat n)) (F.ofNat mw)
    match wnd with
    | 0 => cosineWindow F x 54000 [46000]
    | 1 => cosineWindow F x 50000 [50000]
    | 2 => cosineWindow F x 42000 [50000, 8000]
    | 3 => cosineWindow F x 35875 [48829, 14128, 1168]
    | 4 =>
      F.sub F.one (F.abs (F.sub (F.div (F.ofNat (2 * n)) (F.ofNat mw)) F.one))
    | 5 => cosineWindow F x 100000 [193000, 129000, 38800, 2800]
    | _ => F.one

/-- The windowed ideal low-pass prototype `h[n]` (R404). -/
def chPrototype (F : RealFormat R) (wnd mw : Nat) (w0 : R) (n : Nat) : R :=
  let k : Int := (n : Int) - (mw / 2 : Nat)
  let ideal :=
    if k = 0 then F.div w0 F.pi
    else F.div (F.sin (F.mul (F.ofInt k) w0)) (F.mul (F.ofInt k) F.pi)
  F.mul ideal (windowValue F wnd n mw)

/-- The channel LPF taps, of unity gain at DC (R404). -/
def chTaps (p : Params R) (cfg : CsrFile) : List R :=
  let n := cfg.chNtaps p
  let F := p.real
  let w0 := F.div (F.mul F.twoPi (F.ofNat cfg.chFc)) (cfg.fsMid F)
  let h := (List.range n).map (chPrototype F cfg.chWindow (n - 1) w0)
  let g := F.sum h
  h.map (fun x => F.div x g)

/-! ## Resampler -/

/-- The Hamming-windowed sinc prototype `h[n]` of the resampler, before normalization (R430). -/
def rsPrototype (F : RealFormat R) (n len : Nat) (fc2 : R) : R :=
  let pos := F.ofRat (2 * (n : Int) - ((len : Int) - 1)) 2
  let window := if len = 1 then F.one else windowValue F 0 n (len - 1)
  F.mul (F.mul fc2 (sinc F (F.mul fc2 pos))) window

/-- The resampler taps, phase-major with stride L; none where the reduced factors are equal (R430). -/
def rsTapsOf (F : RealFormat R) (k l m : Nat) : List R :=
  if l = m then []
  else
    let len := k * l
    let fc2 := F.mul (F.ofNat 2) (F.div F.one (F.ofNat (2 * max l m)))
    let h := (List.range len).map (fun n => rsPrototype F n len fc2)
    let g := F.sum h
    let hs := h.map (fun x => F.div (F.mul x (F.ofNat l)) g)
    (List.range l).flatMap (fun p => (List.range k).map (fun j => hs.getD (j * l + p) F.zero))

/-! ## The design step -/

/-- Half-band set: a new HB_STAGES clears the histories (R264). -/
def designHb (p : Params R) (s : State.Of R) : State.Of R :=
  let key := some [s.cfg.get .hbStages]
  if s.on .hb && decide (s.key.hb ≠ key) then { s with hb := hbReset p, key := { s.key with hb := key } } else s

/-- Band-edge set (R264). -/
def designBe (F : RealFormat R) (s : State.Of R) : State.Of R :=
  let key := some [s.cfg.get .tedSps]
  if (s.on .befll && s.cq) && decide (s.key.be ≠ key) then
    { s with be := beDesign F s.cfg.sps s.be, key := { s.key with be := key } }
  else s

/-- The TED runs on the active path: alone, or inside the Costas stage (R264, R316). -/
def State.Of.tedActive (s : State.Of R) : Bool := s.on .ted || (s.cq && s.on .costas)

/-- TED set (R264). Where the key is the CSR value, `omega` is left, also where a retune reset with the TED disabled has set it
from another TED_SPS (DESIGN CHOICE, notes/assumptions/27.md). -/
def designTed (F : RealFormat R) (s : State.Of R) : State.Of R :=
  let key := some [s.cfg.get .tedSps]
  if s.tedActive && decide (s.key.ted ≠ key) then
    { s with ted := Ted.resetFor F s.cfg.sps, key := { s.key with ted := key } }
  else s

/-- Equalizer set: a new length re-initializes all of the equalizer (R264, R360). -/
def designEq (F : RealFormat R) (s : State.Of R) : State.Of R :=
  let key := some [BitVec.ofNat 32 s.cfg.ffeLen, BitVec.ofNat 32 s.cfg.dfeLen]
  if (s.on .eq && s.cq) && decide (s.key.eq ≠ key) then
    { s with eq := Equalizer.initFor F s.cfg.ffeLen, key := { s.key with eq := key } }
  else s

/-- Deemphasis set (R264, R400). -/
def designDe (F : RealFormat R) (s : State.Of R) : State.Of R :=
  let key := some [s.cfg.get .deemphCfg, s.cfg.get .deemphTauNfmNs, s.cfg.get .fsIn, BitVec.ofNat 32 s.cfg.halvings]
  if (s.on .deemph && !s.cq) && decide (s.key.de ≠ key) then
    { s with de := ⟨F.zero, deCoeff F s.cfg⟩, key := { s.key with de := key } }
  else s

/-- Channel LPF set (R264, R404). -/
def designCh (p : Params R) (s : State.Of R) : State.Of R :=
  let key := some
    [s.cfg.get .chlpfCfg, BitVec.ofNat 32 s.cfg.chFc, BitVec.ofNat 32 s.cfg.chTw, s.cfg.get .fsIn,
      BitVec.ofNat 32 s.cfg.halvings]
  if s.on .chlpf && decide (s.key.ch ≠ key) then
    { s with ch := ⟨chTaps p s.cfg, List.replicate (s.cfg.chNtaps p - 1) p.real.czero⟩, key := { s.key with ch := key } }
  else s

/-- Audio LPF set (R264, R420). -/
def designAl (F : RealFormat R) (s : State.Of R) : State.Of R :=
  let key := some [s.cfg.get .alpfFc, s.cfg.get .fsIn, BitVec.ofNat 32 s.cfg.halvings]
  if (s.on .alpf && !s.cq) && decide (s.key.al ≠ key) then
    { s with al := ⟨F.zero, alCoeff F s.cfg⟩, key := { s.key with al := key } }
  else s

/-- Resampler set (R264, R430). -/
def designRs (F : RealFormat R) (s : State.Of R) : State.Of R :=
  let key := some [s.cfg.get .rsL, s.cfg.get .rsM, s.cfg.get .rsK]
  if s.on .resamp && decide (s.key.rs ≠ key) then
    { s with
      rs := ⟨rsTapsOf F s.cfg.rsTaps s.cfg.ratio.1 s.cfg.ratio.2, List.replicate s.cfg.rsTaps F.czero, 0⟩
      key := { s.key with rs := key } }
  else s

/-- `Design()`: every set whose stage is enabled on the active path and whose inputs changed (R264). -/
def design (p : Params R) (s : State.Of R) : State.Of R :=
  let F := p.real
  designRs F (designAl F (designCh p (designDe F (designEq F (designTed F (designBe F (designHb p s)))))))

/-! ## Retune reset -/

/-- A history of the same length, all 0. -/
def clearHistory (F : RealFormat R) (h : List (Cplx R)) : List (Cplx R) := List.replicate h.length F.czero

/-- `RetuneReset()` (R592): the loops, histories and equalizer go back to their reset values, the designed sets and
everything else are kept, the design keys among it. The TED takes TED_SPS from the CSR, also where the TED is disabled, so that
`omega` and TED_SPS can differ later (DESIGN CHOICE, notes/assumptions/27.md; 13.md). -/
def retuneReset (p : Params R) (s : State.Of R) : State.Of R :=
  { s with
    hb := hbReset p
    be := { s.be with phase := p.real.zero, freq := p.real.zero, h := clearHistory p.real s.be.h }
    cos := Costas.reset p.real
    ted := Ted.resetFor p.real s.csr.sps
    diffPrev := p.real.czero
    eq := Equalizer.initFor p.real s.cfg.ffeLen
    lf := Lfll.reset p.real
    discPrev := p.real.czero
    de := { s.de with y := p.real.zero }
    al := { s.al with y := p.real.zero }
    ch := { s.ch with h := clearHistory p.real s.ch.h }
    rs := { s.rs with h := clearHistory p.real s.rs.h, acc := 0 }
    sync := { s.sync with sr := List.replicate syncSrLen 0#2, srn := 0 }
    perm := Perm.identity
    permLock := false }

/-- A pending retune reset is applied once and its request cleared (R261, R593). -/
def applyRetune (p : Params R) (s : State.Of R) : State.Of R := if s.rr then { retuneReset p s with rr := false } else s

end Sys2Proof.Machine
end

