-- ==== Sys2Proof/Machine/EqualizerStage.lean ====
section
/-! DEFINITION. The CQPSK channel equalizer, stage 10 (43_equalizer.md R361 to R364). -/

namespace Sys2Proof.Machine

variable {R : Type}

/-- Arming of the CMA warmup at the start of the stage in a block: a rising edge of LMS_EN loads it (R361). -/
def eqArm (cfg : CsrFile) (q : Equalizer R) : Equalizer R :=
  { q with
    cma := if cfg.lmsEn && !q.lmsPrev then cfg.field .eqCmaWarmup 0 16 else q.cma
    lmsPrev := cfg.lmsEn }

/-- The EMA rate 2^-6 of the improperness gate (R362). -/
def improperRate (F : RealFormat R) : R := F.ofRat 1 64

/-- The improperness gate of a symbol (R362). -/
def eqGate (F : RealFormat R) (cfg : CsrFile) (q : Equalizer R) (x : Cplx R) : Equalizer R :=
  let imc := F.cema (improperRate F) q.imc (F.cmul x x)
  let imp := F.ema (improperRate F) q.imp (F.norm x)
  let improp := if F.lt F.zero imp then F.div (F.cabs imc) imp else F.zero
  { q with imc := imc, imp := imp, wl := cfg.wlEn && F.lt (cfg.wlGate F) improp }

/-- The equalizer output over the current history: FFE, the widely-linear branch while it is active, less the DFE
(R363). One tap and no DFE give `w[0]·x` while that branch is off (DESIGN CHOICE, notes/assumptions/26.md). -/
def eqOutput (F : RealFormat R) (cfg : CsrFile) (q : Equalizer R) : Cplx R :=
  let l := cfg.ffeLen
  let y := F.cfir (q.w.take l) q.x
  let y := if q.wl then F.cadd y (F.cfir (q.v.take l) (q.x.map F.conj)) else y
  F.csub y (F.cfir (q.b.take cfg.dfeLen) q.d)

/-- The hard decision `dec(y)` in {1, −1, j, −j} (R363). -/
def eqDecide (F : RealFormat R) (y : Cplx R) : Cplx R :=
  if F.le (F.abs y.im) (F.abs y.re) then
    F.ofReal (if F.le F.zero y.re then F.one else F.neg F.one)
  else ⟨F.zero, if F.le F.zero y.im then F.one else F.neg F.one⟩

/-- The adaptation error: CMA with modulus 1 while the warmup lasts, then decision-directed (R364). -/
def eqError (F : RealFormat R) (cma : Nat) (y a : Cplx R) : Cplx R :=
  if 0 < cma then F.scale (F.sub F.one (F.norm y)) y else F.csub a y

/-- Apply an update to the first `n` of a list of taps, each with its history element. -/
def updateTaps (n : Nat) (f : Cplx R → Cplx R → Cplx R) (taps hist : List (Cplx R)) : List (Cplx R) :=
  List.zipWith f (taps.take n) hist ++ taps.drop n

/-- The tap updates with the error `e` (R364): FFE, WL where the branch is active, the WL leakage always, DFE. With `μ = 0`
R364 says that the taps are frozen while its pseudocode still leaks `v`; the model follows the pseudocode for every `μ` (DESIGN
CHOICE, notes/assumptions/23.md). -/
def eqAdapt (F : RealFormat R) (cfg : CsrFile) (q : Equalizer R) (e : Cplx R) : Equalizer R :=
  let mu := cfg.eqMu F
  let leak := F.ofRat 1 (2 ^ cfg.wlLeakShift)
  { q with
    w := updateTaps cfg.ffeLen (fun w x => F.cadd w (F.scale mu (F.cmul e (F.conj x)))) q.w q.x
    v := updateTaps cfg.ffeLen
      (fun v x =>
        let v1 := if q.wl then F.cadd v (F.scale mu (F.cmul e x)) else v
        F.csub v1 (F.scale leak v1)) q.v q.x
    b := updateTaps cfg.dfeLen (fun b d => F.csub b (F.scale mu (F.cmul e (F.conj d)))) q.b q.d }

/-- The counters and, at every `update_stride`-th symbol, the tap update, while LMS_EN is 1 (R364). -/
def eqLearn (F : RealFormat R) (cfg : CsrFile) (q : Equalizer R) (y a : Cplx R) : Equalizer R :=
  if cfg.lmsEn then
    let e := eqError F q.cma y a
    let q1 := { q with cma := q.cma - 1, stride := q.stride + 1 }
    if cfg.field .eqStride 0 16 ≤ q1.stride then eqAdapt F cfg { q1 with stride := 0 } e else q1
  else q

/-- One symbol of the equalizer (R362, R363, R364). -/
def eqStep (F : RealFormat R) (cfg : CsrFile) (q : Equalizer R) (x : Cplx R) : Equalizer R × List (Cplx R) :=
  let g := eqGate F cfg q x
  let h := { g with x := push g.x x }
  let y := eqOutput F cfg h
  let a := eqDecide F y
  let l := eqLearn F cfg h y a
  ({ l with d := push l.d a }, [y])

/-- STAGE.EQ (R361 to R364), CQPSK path. -/
def stageEq (F : RealFormat R) (s : State.Of R) : State.Of R :=
  if s.on .eq && s.cq then
    let a := transduce (eqStep F s.cfg) (eqArm s.cfg s.eq) s.work.xs
    { s with eq := a.1, work := { s.work with xs := a.2 } }
  else s

/-- STAGE.EQ on the stream of the block in progress. -/
def execStageEq (s : State) : Host.Outcome State Fault Refusal := .next (stageEq .binary32 s)

end Sys2Proof.Machine
end

