-- ==== Sys2Proof/Machine/FmAudio.lean ====
section
/-! DEFINITION. Stages 11 to 16 and the audio output (44_fm_audio.md): legacy FM FLL (R390), discriminator (R395),
deemphasis (R401), channel LPF (R407), audio LPF (R420), resampler (R435), audio (R440). -/

namespace Sys2Proof.Machine

variable {R : Type}

/-- A stage of a real stream: the real parts go through `f`, and a real result is `r + j·0` (R260, R13). -/
def realStep (F : RealFormat R) {σ : Type} (f : σ → R → σ × R) (st : σ) (x : Cplx R) : σ × List (Cplx R) :=
  let a := f st x.re
  (a.1, [F.ofReal a.2])

/-! ## Stage 11: legacy FM FLL -/

/-- One sample of the NCO: rotate by the phase, then advance it by `freq·π/32768` (R390). At phase 0 the product is formed too:
an infinite sample gives a NaN part there (DESIGN CHOICE, notes/assumptions/26.md). -/
def lfllNco (F : RealFormat R) (freq phase : R) (z : Cplx R) : R × List (Cplx R) :=
  (F.wrap (F.add phase (F.div (F.mul freq F.pi) (F.ofNat 32768))),
    [F.cmul z (F.expj (F.neg phase))])

/-- `acc`: the lag-1 autocorrelation of the block's output, its first term with the last sample of the block before
(R390). -/
def lfllAcc (F : RealFormat R) (prev : Cplx R) : List (Cplx R) → Cplx R
  | [] => F.czero
  | y :: ys => F.cadd (F.cmul y (F.conj prev)) (F.csum (List.zipWith (fun b a => F.cmul b (F.conj a)) ys (y :: ys)))

/-- The residual frequency in Q14 units, 0 inside the deadband (R390). -/
def lfllResidual (F : RealFormat R) (deadband : R) (acc : Cplx R) : R :=
  let e := F.div (F.mul (F.arg acc) (F.ofNat 16384)) F.pi
  if F.lt (F.abs e) deadband then F.zero else e

/-- The loop update at the end of a block of output samples (R390): leaky integrator with anti-windup, PI sum, slew
limit, clamp. With `kp = ki = 0`, where R390 says that the loop never moves, a NaN residual still gives a NaN, and an integrator
or frequency from earlier blocks still acts (DESIGN CHOICE, notes/assumptions/26.md). -/
def lfllUpdate (F : RealFormat R) (cfg : CsrFile) (l : Lfll R) (ys : List (Cplx R)) : Lfll R :=
  match ys.getLast? with
  | none => l
  | some last =>
    let u := F.mul (F.ofNat 2)
      (lfllResidual F (F.ofNat (cfg.field .lfllDeadbandQ14 0 16)) (lfllAcc F l.prev ys))
    let leaked := F.sub l.integ (F.mul l.integ (F.ofRat 1 4096))
    let integ := F.clamp (F.add leaked (F.mul (cfg.realAs F .lfllKi) u)) (F.neg (lfllClamp F)) (lfllClamp F)
    let d := F.add (F.mul (cfg.realAs F .lfllKp) u) integ
    let slew := F.ofNat (cfg.field .lfllSlewQ15 0 16)
    let d := if F.lt F.zero slew then F.clamp d (F.neg slew) slew else d
    { l with integ := integ, freq := F.clamp (F.add l.freq d) (F.neg (lfllClamp F)) (lfllClamp F), prev := last }

/-- STAGE.LFLL (R390), FM family. -/
def stageLfll (F : RealFormat R) (s : State.Of R) : State.Of R :=
  if s.on .lfll && !s.cq then
    let a := transduce (lfllNco F s.lf.freq) s.lf.phase s.work.xs
    { s with lf := lfllUpdate F s.cfg { s.lf with phase := a.1 } a.2, work := { s.work with xs := a.2 } }
  else s

/-! ## Stage 12: discriminator -/

/-- One sample of the discriminator: the phase step in units of π (R395). The first sample after a reset gives 0 where it is
finite; an infinite one gives a NaN product and so a free angle (DESIGN CHOICE, notes/assumptions/26.md). -/
def discStep (p : Params R) (prev x : Cplx R) : Cplx R × List (Cplx R) :=
  let d := p.real.cmul x (p.real.conj prev)
  (x, [p.real.ofReal (p.real.ofRat (p.atan2Q14 d.im d.re) 16384)])

/-- STAGE.DISC (R395), FM family. -/
def stageDisc (p : Params R) (s : State.Of R) : State.Of R :=
  if s.on .disc && !s.cq then
    let a := transduce (discStep p) s.discPrev s.work.xs
    { s with discPrev := a.1, work := { s.work with xs := a.2 } }
  else s

/-- After stage 12 the FM-family stream is real: `re(z)` where the discriminator is disabled (R260). -/
def realStream (F : RealFormat R) (s : State.Of R) : State.Of R :=
  { s with work := { s.work with xs := s.work.xs.map (fun z => F.ofReal z.re) } }

/-! ## Stages 13 and 15: one-pole filters -/

/-- One sample of a one-pole filter `y += a·(x − y)` (R401, R420), every operation rounded (R12). -/
def onePoleStep (F : RealFormat R) (p : OnePole R) (x : R) : OnePole R × R :=
  let y := F.ema p.a p.y x
  ({ p with y := y }, y)

/-- One sample of the deemphasis (R401). The coefficient 1 makes it the identity, as R401 and R113 state: `x` passes, and is
the state. -/
def deemphStep (F : RealFormat R) (p : OnePole R) (x : R) : OnePole R × R :=
  if F.eqv p.a F.one then ({ p with y := x }, x) else onePoleStep F p x

/-- STAGE.DEEMPH (R401), FM family. -/
def stageDeemph (F : RealFormat R) (s : State.Of R) : State.Of R :=
  if s.on .deemph && !s.cq then
    let a := transduce (realStep F (deemphStep F)) s.de s.work.xs
    { s with de := a.1, work := { s.work with xs := a.2 } }
  else s

/-- STAGE.ALPF (R420), FM family. -/
def stageAlpf (F : RealFormat R) (s : State.Of R) : State.Of R :=
  if s.on .alpf && !s.cq then
    let a := transduce (realStep F (onePoleStep F)) s.al s.work.xs
    { s with al := a.1, work := { s.work with xs := a.2 } }
  else s

/-- The output stream of a stage that runs on both paths: complex on the CQPSK path, real on the FM family (R260, R407,
R435). -/
def State.Of.pathStream (F : RealFormat R) (s : State.Of R) (xs : List (Cplx R)) : List (Cplx R) :=
  if s.cq then xs else xs.map (fun z => F.ofReal z.re)

/-! ## Stage 14: channel LPF -/

/-- One sample of the channel LPF over the window newest first (R407). -/
def chlpfStep (F : RealFormat R) (c : ChLpf R) (x : Cplx R) : ChLpf R × List (Cplx R) :=
  ({ c with h := push c.h x }, [F.fir c.taps (x :: c.h)])

/-- STAGE.CHLPF (R407), both paths. -/
def stageChlpf (F : RealFormat R) (s : State.Of R) : State.Of R :=
  if s.on .chlpf then
    let a := transduce (chlpfStep F) s.ch s.work.xs
    { s with ch := a.1, work := { s.work with xs := s.pathStream F a.2 } }
  else s

/-! ## Stage 16: resampler -/

/-- The output of phase `p` (R435). -/
def resampOut (F : RealFormat R) (k : Nat) (r : Resamp R) (p : Nat) : Cplx R :=
  F.fir ((r.taps.drop (p * k)).take k) r.h

/-- The outputs of one input: one for each phase `acc`, `acc + M`, … below L (R435). The first argument bounds their
number by L. -/
def resampEmit (F : RealFormat R) : Nat → Nat → Nat → Nat → Resamp R → Resamp R × List (Cplx R)
  | 0, _, _, _, r => (r, [])
  | fuel + 1, k, l, m, r =>
    if r.acc < l then
      let a := resampEmit F fuel k l m { r with acc := r.acc + m }
      (a.1, resampOut F k r r.acc :: a.2)
    else (r, [])

/-- One sample of the resampler with the reduced factors `l`, `m` and `k` taps a phase (R435). -/
def resampStep (F : RealFormat R) (k l m : Nat) (r : Resamp R) (x : Cplx R) : Resamp R × List (Cplx R) :=
  let a := resampEmit F l k l m { r with h := push r.h x }
  ({ a.1 with acc := a.1.acc - l }, a.2)

/-- STAGE.RESAMP (R435), both paths; the identity when the reduced factors are equal (R430). -/
def stageResamp (F : RealFormat R) (s : State.Of R) : State.Of R :=
  if s.on .resamp && decide (s.cfg.ratio.1 ≠ s.cfg.ratio.2) then
    let a := transduce (resampStep F s.cfg.rsTaps s.cfg.ratio.1 s.cfg.ratio.2) s.rs s.work.xs
    { s with rs := a.1, work := { s.work with xs := s.pathStream F a.2 } }
  else s

/-! ## Audio output -/

/-- The audio entry of a real sample: `sat16(a·32768)` (R146, R440). -/
def audioSample (F : RealFormat R) (z : Cplx R) : BitVec 16 := F.sat16 (F.mul z.re (F.ofNat 32768))

/-- In FM mode every real sample that leaves stage 16, or the last enabled stage before it, is pushed to `AUDIO_OUT`, and
the stream goes on (R440). With every stage disabled nothing is pushed (R223, notes/assumptions/18.md). -/
def audioOutput (p : Params R) (s : State.Of R) : State.Of R :=
  if s.cfg.field .mode 0 3 = 0 ∧ s.cfg.anyStage then s.work.xs.foldl (fun t z => t.audioPush p (audioSample p.real z)) s else s

/-! ## The meanings of the stage instructions -/

/-- STAGE.LFLL on the stream of the block in progress. -/
def execStageLfll (s : State) : Host.Outcome State Fault Refusal := .next (stageLfll .binary32 s)
/-- STAGE.DISC on the stream of the block in progress, with the default parameters. -/
def execStageDisc (s : State) : Host.Outcome State Fault Refusal := .next (stageDisc Params.default s)
/-- STAGE.DEEMPH on the stream of the block in progress. -/
def execStageDeemph (s : State) : Host.Outcome State Fault Refusal := .next (stageDeemph .binary32 s)
/-- STAGE.CHLPF on the stream of the block in progress. -/
def execStageChlpf (s : State) : Host.Outcome State Fault Refusal := .next (stageChlpf .binary32 s)
/-- STAGE.ALPF on the stream of the block in progress. -/
def execStageAlpf (s : State) : Host.Outcome State Fault Refusal := .next (stageAlpf .binary32 s)
/-- STAGE.RESAMP on the stream of the block in progress. -/
def execStageResamp (s : State) : Host.Outcome State Fault Refusal := .next (stageResamp .binary32 s)

end Sys2Proof.Machine
end

