-- ==== Sys2Proof/Machine/Carrier.lean ====
section
/-! DEFINITION. Carrier and timing recovery (42_carrier_timing.md): band-edge FLL (R312), Gardner TED (R330, R331), Costas
loop (R315, R316, R318), differential phasor (R340), phase extraction (R345). -/

namespace Sys2Proof.Machine

variable {R : Type}

/-! ## Stage 7: band-edge FLL -/

/-- One sample of the band-edge FLL (R312): the phase advances with the unclamped frequency, then the frequency is
clamped. -/
def befllStep (F : RealFormat R) (b : BeFll R) (x : Cplx R) : BeFll R × List (Cplx R) :=
  let y := F.cmul x (F.expj b.phase)
  let w := y :: b.h
  let err := F.sub (F.norm (F.cfir b.lo w)) (F.norm (F.cfir b.up w))
  let freq := F.add b.freq (F.mul b.beta err)
  let phase := F.wrap (F.add (F.add b.phase freq) (F.mul b.alpha err))
  ({ b with phase := phase, freq := F.clamp freq (F.neg b.fmax) b.fmax, h := push b.h y }, [y])

/-- STAGE.BEFLL (R312), CQPSK path. -/
def stageBefll (F : RealFormat R) (s : State.Of R) : State.Of R :=
  if s.on .befll && s.cq then
    let a := transduce (befllStep F) s.be s.work.xs
    { s with be := a.1, work := { s.work with xs := a.2 } }
  else s

/-! ## Stage 9: Gardner TED -/

/-- `interp(a)`: linear interpolation at the age `a` in samples before the newest (R331). -/
def tedInterp (F : RealFormat R) (h : List (Cplx R)) (a : R) : Cplx R :=
  let i := ((F.floorQuot a F.one).getD 0).toNat
  let f := F.sub a (F.ofNat i)
  F.cadd (F.scale (F.sub F.one f) (h.getD i F.czero)) (F.scale f (h.getD (i + 1) F.czero))

/-- The strobe of the TED at age `−t` (R330): the Gardner error moves the next strobe by at most half a sample. -/
def tedStrobe (F : RealFormat R) (g : R) (d : Ted R) : Ted R × List (Cplx R) :=
  let a := F.neg d.t
  let yk := tedInterp F d.h a
  let ym := tedInterp F d.h (F.add a (F.div d.omega (F.ofNat 2)))
  let e := (F.cmul (F.csub yk d.yprev) (F.conj ym)).re
  let t := F.sub (F.add d.t d.omega) (F.clamp (F.mul g e) (F.neg (half F)) (half F))
  ({ d with t := t, mu := a, yprev := yk }, [yk])

/-- One sample of the TED (R330). -/
def tedStep (F : RealFormat R) (g : R) (d : Ted R) (x : Cplx R) : Ted R × List (Cplx R) :=
  let d' := { d with h := push d.h x, t := F.sub d.t F.one }
  if F.le d'.t F.zero then tedStrobe F g d' else (d', [])

/-- The TED runs alone: stage 9, where the Costas stage does not contain it (R316, R319, R330). -/
def State.Of.tedAlone (s : State.Of R) : Bool := s.on .ted && !(s.cq && s.on .costas)

/-- STAGE.TED (R330, R319): the CQPSK path when COSTAS is 0, and the FM family after stage 16. -/
def stageTed (F : RealFormat R) (s : State.Of R) : State.Of R :=
  if s.tedAlone then
    let a := transduce (tedStep F (s.cfg.tedGain F)) s.ted s.work.xs
    { s with ted := a.1, work := { s.work with xs := a.2 } }
  else s

/-! ## Stage 8: Costas loop -/

/-- The phase detector `pd` (R315). -/
def costasPd (F : RealFormat R) (z : Cplx R) : R :=
  if F.isNan z.re || F.isNan z.im then F.nan
  else if F.lt (F.abs z.im) (F.abs z.re) then
    (if F.lt F.zero z.re then F.neg z.im else z.im)
  else
    (if F.lt F.zero z.im then z.re else F.neg z.re)

/-- One symbol of the Costas loop (R316): the symbol emitted is rotated by the phase before this update; the first
symbol since a reset starts the loop from phase and frequency 0 (R318). With `α = β = 0`, which R316 calls a fixed rotation, a
frequency left from earlier blocks still turns the phase, and data that are not finite still give a NaN (DESIGN CHOICE,
notes/assumptions/26.md). A frequency beyond a lowered `fm` stays until this update (27.md). -/
def costasStep (F : RealFormat R) (alpha beta fm : R) (c : Costas R) (yk : Cplx R) : Costas R × Cplx R :=
  let c0 : Costas R := if c.init then c else ⟨F.zero, F.zero, c.error, true⟩
  let sym := F.cmul yk (F.expj c0.phase)
  let e := costasPd F sym
  let freq := F.clamp (F.add c0.freq (F.mul beta e)) (F.neg fm) fm
  let phase := F.wrap (F.add (F.add c0.phase freq) (F.mul alpha e))
  (⟨phase, freq, e, true⟩, sym)

/-- One sample of the Costas stage: the TED, and the loop for each symbol it emits (R316). -/
def costasTedStep (F : RealFormat R) (cfg : CsrFile) (st : Costas R × Ted R) (x : Cplx R) :
    (Costas R × Ted R) × List (Cplx R) :=
  let a := tedStep F (cfg.tedGain F) st.2 x
  let b := transduce
    (fun c yk =>
      let r := costasStep F (cfg.realAs F .costasAlpha) (cfg.realAs F .costasBeta) (cfg.realAs F .costasMaxf) c yk
      (r.1, [r.2])) st.1 a.2
  ((b.1, a.1), b.2)

/-- STAGE.COSTAS (R316), CQPSK path; the TED of R330 runs inside it whatever STAGE_EN.TED holds. -/
def stageCostas (F : RealFormat R) (s : State.Of R) : State.Of R :=
  if s.on .costas && s.cq then
    let a := transduce (costasTedStep F s.cfg) (s.cos, s.ted) s.work.xs
    { s with cos := a.1.1, ted := a.1.2, work := { s.work with xs := a.2 } }
  else s

/-! ## Differential phasor and phase extraction -/

/-- One symbol of the differential phasor `x[n]·conj(x[n−1])` (R340). An infinite first symbol gives a NaN, not the 0 that R340
names (DESIGN CHOICE, notes/assumptions/26.md). -/
def diffStep (F : RealFormat R) (prev x : Cplx R) : Cplx R × List (Cplx R) := (x, [F.cmul x (F.conj prev)])

/-- STAGE.DIFF (R340), CQPSK path. -/
def stageDiff (F : RealFormat R) (s : State.Of R) : State.Of R :=
  if s.on .diff && s.cq then
    let a := transduce (diffStep F) s.diffPrev s.work.xs
    { s with diffPrev := a.1, work := { s.work with xs := a.2 } }
  else s

/-- CQPSK phase extraction: the Q14 phase of the symbol divided by 4096 (R345). -/
def phaseValue (p : Params R) (y : Cplx R) : R := p.real.ofRat (p.atan2Q14 y.im y.re) 4096

/-! ## The meanings of the stage instructions -/

/-- STAGE.BEFLL on the stream of the block in progress. -/
def execStageBefll (s : State) : Host.Outcome State Fault Refusal := .next (stageBefll .binary32 s)
/-- STAGE.COSTAS on the stream of the block in progress. -/
def execStageCostas (s : State) : Host.Outcome State Fault Refusal := .next (stageCostas .binary32 s)
/-- STAGE.TED on the stream of the block in progress. -/
def execStageTed (s : State) : Host.Outcome State Fault Refusal := .next (stageTed .binary32 s)
/-- STAGE.DIFF on the stream of the block in progress. -/
def execStageDiff (s : State) : Host.Outcome State Fault Refusal := .next (stageDiff .binary32 s)

end Sys2Proof.Machine
end

