-- ==== Sys2Proof/Machine/Slicer.lean ====
section
/-! DEFINITION. The dibit slicer (45_slicer.md): thresholds (R455), decisions (R456), reliability (R461), rolling statistics
(R460), warm-start (R470, R471, R475), DMR resample-on-sync and equalizer (R480 to R486). -/

namespace Sys2Proof.Machine

variable {R : Type}

/-! ## Thresholds and decisions -/

/-- The derived fields, recomputed from `max`, `min` and `center` (R455). -/
def Slicer.derive (F : RealFormat R) (sl : Slicer R) : Slicer R :=
  { sl with
    umid := F.add sl.center (F.mul (midFactor F) (F.sub sl.max sl.center))
    lmid := F.add sl.center (F.mul (midFactor F) (F.sub sl.min sl.center))
    maxref := F.mul (refFactor F) sl.max
    minref := F.mul (refFactor F) sl.min }

/-- `Slice4(x)`, the FM-family decision (R456). -/
def slice4 (F : RealFormat R) (sl : Slicer R) (x : R) : Dibit :=
  if F.le sl.center x then (if F.lt sl.umid x then 1#2 else 0#2)
  else (if F.lt x sl.lmid then 3#2 else 2#2)

/-- `SliceCQ(x)`, the CQPSK decision with fixed thresholds (R456). -/
def sliceCq (F : RealFormat R) (sl : Slicer R) (x : R) : Dibit :=
  let v := F.sub x sl.center
  if F.le F.zero v then (if F.lt (F.ofNat 2) v then 1#2 else 0#2)
  else (if F.lt v (F.ofInt (-2)) then 3#2 else 2#2)

/-! ## Reliability -/

/-- The smaller of two margins. -/
def minReal (F : RealFormat R) (a b : R) : R := if F.lt b a then b else a

/-- The least of three margins; free where one is a NaN (R461). -/
def leastMargin (F : RealFormat R) (a b c : R) : R :=
  if F.isNan a || F.isNan b || F.isNan c then F.marginOfNan a b c else minReal F (minReal F a b) c

/-- `Rel(x)`, the FM-family reliability (R461). -/
def relFm (p : Params R) (sl : Slicer R) (x : R) : Rel :=
  let F := p.real
  p.relScale (leastMargin F (F.abs (F.sub x sl.center)) (F.abs (F.sub x sl.umid)) (F.abs (F.sub x sl.lmid)))
    (F.sub sl.umid sl.center)

/-- `RelCQ(x)`, the CQPSK reliability (R461). -/
def relCq (p : Params R) (sl : Slicer R) (x : R) : Rel :=
  let F := p.real
  let v := F.sub x sl.center
  p.relScale (leastMargin F (F.abs v) (F.abs (F.sub v (F.ofNat 2))) (F.abs (F.add v (F.ofNat 2)))) (F.ofNat 2)

/-- The decision of the active path (R456, R458). -/
def State.Of.dibitOf (F : RealFormat R) (s : State.Of R) (x : R) : Dibit := if s.cq then sliceCq F s.sl x else slice4 F s.sl x

/-- The reliability of the active path (R458, R461). -/
def State.Of.reliability (p : Params R) (s : State.Of R) (x : R) : Rel := if s.cq then relCq p s.sl x else relFm p s.sl x

/-- The permutation search runs: the CQPSK path with STAGE_EN.PERM = 1 (R512, R520). -/
def State.Of.permOn (s : State.Of R) : Bool := s.cq && s.on .perm

/-- The dibit corrected by the locked permutation, where it is applied (R458, R512). -/
def State.Of.correct (s : State.Of R) (d : Dibit) : Dibit := if s.permOn && s.permLock then s.perm.apply d else d

/-! ## Rolling statistics -/

/-- The extreme of a window by the order `before` (R460). Of data that are equal as values, +0 and −0, it is the first of the
list, which is the newest symbol (DESIGN CHOICE, notes/assumptions/22.md). -/
def extremeOf (F : RealFormat R) (before : R → R → Bool) : List R → R
  | [] => F.zero
  | a :: as => as.foldl (fun m x => if before m x then x else m) a

/-- The maximum and minimum of a window, and the counter of free values after it: with a NaN in the window both are
free (R460). -/
def windowExtremes (F : RealFormat R) (free : Nat) (win : List R) : R × R × Nat :=
  if win.any F.isNan then (F.windowExtreme free, F.windowExtreme (free + 1), free + 2)
  else (extremeOf F F.lt win, extremeOf F (fun m x => F.lt x m) win, free)

/-- The slicer after the extremes `hi`, `lo` of the symbol window enter buffers of `ms` averaged entries (R460). -/
def Slicer.roll (F : RealFormat R) (sl : Slicer R) (ms : Nat) (hi lo : R) : Slicer R :=
  let i := if ms ≤ sl.midx then 0 else sl.midx
  let maxbuf := sl.maxbuf.set i hi
  let minbuf := sl.minbuf.set i lo
  let fill := Nat.min (sl.fill + 1) ms
  let mx := F.mean (maxbuf.take fill)
  let mn := F.mean (minbuf.take fill)
  Slicer.derive F
    { sl with
      maxbuf := maxbuf, minbuf := minbuf, midx := (i + 1) % ms, fill := fill
      max := mx, min := mn, center := F.div (F.add mx mn) (F.ofNat 2) }

/-- `Rolling()` (R460): the window is the last SL_SSIZE symbols. -/
def rolling (F : RealFormat R) (s : State.Of R) : State.Of R :=
  let e := windowExtremes F s.free (s.sh.newest F (min (s.cfg.field .slSsize 0 12) s.sh.n))
  { s with sl := s.sl.roll F (s.cfg.field .slMsize 0 11) e.1 e.2.1, free := e.2.2 }

/-! ## Warm-start -/

/-- The checks and class means of a warm-start over the last `n` symbols (R470): the result code, `mean_pos` and
`mean_neg`. -/
def warmCheck (F : RealFormat R) (s : State.Of R) (n : Nat) : WsResult × R × R :=
  if !s.on .ws then (.disabled, F.zero, F.zero)
  else if n = 0 || s.sh.n < n then (.noHistory, F.zero, F.zero)
  else
    let pos := (s.sh.newest F n).filter (fun x => F.lt F.zero x)
    let neg := (s.sh.newest F n).filter (fun x => F.lt x F.zero)
    if pos.isEmpty || neg.isEmpty then (.degenerate, F.zero, F.zero)
    else
      let mp := F.mean pos
      let mn := F.mean neg
      if F.lt (F.sub mp mn) (minSpan F) then (.degenerate, mp, mn) else (.ok, mp, mn)

/-- The midpoint `(mp + mn)/2` (R470). -/
def midpoint (F : RealFormat R) (mp mn : R) : R := F.div (F.add mp mn) (F.ofNat 2)

/-- The slicer after a successful warm-start: thresholds from the class means, the first `ms` buffer entries pre-filled
(R470). -/
def Slicer.warm (F : RealFormat R) (sl : Slicer R) (ms : Nat) (mp mn : R) : Slicer R :=
  Slicer.derive F
    { sl with
      max := mp, min := mn, center := midpoint F mp mn
      maxbuf := List.replicate (Nat.min ms sl.maxbuf.length) mp ++ sl.maxbuf.drop ms
      minbuf := List.replicate (Nat.min ms sl.minbuf.length) mn ++ sl.minbuf.drop ms
      midx := 0, fill := ms }

/-- The slicer after a successful CQPSK warm-start: only `center` and the derived fields (R475). -/
def Slicer.warmCq (F : RealFormat R) (sl : Slicer R) (mp mn : R) : Slicer R :=
  Slicer.derive F { sl with center := midpoint F mp mn }

/-- `WarmStart(n)` (R470): the state, and the result that `s.last_ws` records (R471). -/
def warmStart (F : RealFormat R) (s : State.Of R) (n : Nat) : State.Of R × WsResult :=
  let c := warmCheck F s n
  let sl := if c.1 = .ok then s.sl.warm F (s.cfg.field .slMsize 0 11) c.2.1 c.2.2 else s.sl
  ({ s with sl := sl, lastWs := c.1.code }, c.1)

/-- `WarmStartCQ(n)` (R475). -/
def warmStartCq (F : RealFormat R) (s : State.Of R) (n : Nat) : State.Of R × WsResult :=
  let c := warmCheck F s n
  let sl := if c.1 = .ok then s.sl.warmCq F c.2.1 c.2.2 else s.sl
  ({ s with sl := sl, lastWs := c.1.code }, c.1)

/-- The warm-start of the active path (R475, R480, R512). -/
def warmStartPath (F : RealFormat R) (s : State.Of R) (n : Nat) : State.Of R × WsResult :=
  if s.cq then warmStartCq F s n else warmStart F s n

/-- STAGE.WS: the warm-start the scanner runs on a detection, of the detection's length, gated by STAGE_EN.WS; its result
goes into the detection's event (R470, R475, R512). -/
def stageWs (F : RealFormat R) (s : State.Of R) : State.Of R :=
  if s.on .ws then
    let a := warmStartPath F s s.work.syncLen
    { a.1 with work := { a.1.work with ws := a.2.code } }
  else s

/-! ## DMR resample-on-sync -/

/-- The last 24 symbols, oldest first (R480, R481). -/
def syncSymbols (F : RealFormat R) (h : History R) : List R :=
  (List.range dmrSyncLen).map (fun i => h.value F (dmrSyncLen - 1 - i))

/-- The level of a DMR pattern dibit: +3 for 1, −3 for 3 (R481). -/
def dmrLevel (F : RealFormat R) (d : Dibit) : R := if d = 1#2 then F.ofNat 3 else F.ofInt (-3)

/-- The correlation score of a pattern (R481). -/
def dmrScore (F : RealFormat R) (xs : List R) (pattern : List Dibit) : R :=
  F.sum (List.zipWith (fun x d => F.mul x (dmrLevel F d)) xs pattern)

/-- The lowest index with the greatest score, from index `i` on, `best` being the best so far (R481). -/
def bestFrom (F : RealFormat R) : Nat → Nat → R → List R → Nat
  | _, best, _, [] => best
  | i, best, top, x :: xs => if F.lt top x then bestFrom F (i + 1) i x xs else bestFrom F (i + 1) best top xs

/-- `BestPattern()` and the counter of free values after it: a NaN score has no place in the order, and the index is then
free (R481). -/
def bestPattern (p : Params R) (free : Nat) (h : History R) : Nat × Nat :=
  let scores := p.dmrPatterns.map (dmrScore p.real (syncSymbols p.real h))
  if scores.any p.real.isNan then (Config.bestPatternOfNan free % 8, free + 1)
  else
    match scores with
    | [] => (0, free)
    | x :: xs => (bestFrom p.real 1 0 x xs, free)

/-- Re-digitize the history entry `i` (R483): the corrected dibit and its reliability are written back and recorded. -/
def redigitizeOne (p : Params R) (s : State.Of R) (acc : History R × List (Dibit × Rel)) (i : Nat) :
    History R × List (Dibit × Rel) :=
  let x := acc.1.value p.real i
  let d := s.correct (s.dibitOf p.real x)
  let r := s.reliability p x
  (acc.1.rewrite i d r, acc.2 ++ [(d, r)])

/-- `Redigitize()` (R483): up to 66 dibits before the sync, oldest first. -/
def redigitize (p : Params R) (s : State.Of R) : State.Of R × List (Dibit × Rel) :=
  let k := min rosSpan (s.sh.n - dmrSyncLen)
  let a := (List.range k).foldl (fun acc j => redigitizeOne p s acc (dmrSyncLen + k - 1 - j)) (s.sh, [])
  ({ s with sh := a.1 }, a.2)

/-- The symbols at which the pattern has the level `d`. -/
def levelSymbols (xs : List R) (pattern : List Dibit) (d : Dibit) : List R :=
  ((xs.zip pattern).filter (fun e => e.2 == d)).map (fun e => e.1)

/-- `DmrEq(q)` for the symbols `xs` of a sync and the ideal pattern (R486). -/
def dmrEqUpdate (F : RealFormat R) (e : DmrEq R) (xs : List R) (pattern : List Dibit) : DmrEq R :=
  let mp := F.mean (levelSymbols xs pattern 1#2)
  let mn := F.mean (levelSymbols xs pattern 3#2)
  let span := F.sub mp mn
  let bt := midpoint F mp mn
  let gt := if F.lt F.zero span then F.div (F.ofNat 3) (F.div span (F.ofNat 2)) else e.gain
  let bal := if e.init then F.ema (dmrLoopGain F) e.balance bt else bt
  let gain := if e.init then F.ema (dmrLoopGain F) e.gain gt else gt
  { e with
    balance := F.clamp bal (F.neg (dmrBalanceMax F)) (dmrBalanceMax F)
    gain := F.clamp gain (dmrGainMin F) (dmrGainMax F)
    init := true }

/-- What a run of resample-on-sync gives (R480). -/
structure RosResult where
  ran : Bool
  best : Nat
  ws : WsResult
  dibits : List (Dibit × Rel)
deriving DecidableEq, Repr

/-- `DmrRos()` (R480). -/
def dmrRos (p : Params R) (s : State.Of R) : State.Of R × RosResult :=
  if s.sh.n < dmrSyncLen then (s, ⟨false, 0, .noHistory, []⟩)
  else
    let b := bestPattern p s.free s.sh
    let s1 := { s with dmr := { s.dmr with best := b.1, bvalid := true }, free := b.2 }
    let w := warmStartPath p.real s1 dmrSyncLen
    let r := redigitize p w.1
    ({ r.1 with dmr := dmrEqUpdate p.real r.1.dmr (syncSymbols p.real r.1.sh) (p.dmrPatterns.getD b.1 []) },
      ⟨true, b.1, w.2, r.2⟩)

/-- STAGE.DMR_ROS: resample-on-sync on a DMR detection, gated by STAGE_EN.DMR_ROS; its record and its warm-start result
go into the detection's event (R480, R512). -/
def stageDmrRos (p : Params R) (s : State.Of R) : State.Of R :=
  if s.on .dmrRos then
    let a := dmrRos p s
    { a.1 with work := { a.1.work with
      ws := if a.2.ran then a.2.ws.code else wsNone
      ros := if a.2.ran then some ⟨a.2.best, a.2.dibits⟩ else none } }
  else s

/-! ## The meanings of the stage instructions -/

/-- STAGE.WS for the detection in progress. -/
def execStageWs (s : State) : Host.Outcome State Fault Refusal := .next (stageWs .binary32 s)
/-- STAGE.DMR_ROS for the detection in progress, with the default parameters. -/
def execStageDmrRos (s : State) : Host.Outcome State Fault Refusal := .next (stageDmrRos Params.default s)

end Sys2Proof.Machine
end

