-- ==== Sys2Proof/Machine/FrameSync.lean ====
section
/-! DEFINITION. The frame sync scanner (R512), the CQPSK permutation search (R520), the classification predicates (R530),
and the symbol chain that ends in the scanner (R450, R458). -/

namespace Sys2Proof.Machine

variable {R : Type}

/-! ## Permutation search -/

/-- The 24 candidate permutations: the four rotations, then the others in lexicographic order (R520). -/
def permCandidates : List Perm :=
  [ ⟨0, 1, 2, 3⟩, ⟨1, 3, 0, 2⟩, ⟨3, 2, 1, 0⟩, ⟨2, 0, 3, 1⟩,
    ⟨0, 1, 3, 2⟩, ⟨0, 2, 1, 3⟩, ⟨0, 2, 3, 1⟩, ⟨0, 3, 1, 2⟩, ⟨0, 3, 2, 1⟩,
    ⟨1, 0, 2, 3⟩, ⟨1, 0, 3, 2⟩, ⟨1, 2, 0, 3⟩, ⟨1, 2, 3, 0⟩, ⟨1, 3, 2, 0⟩,
    ⟨2, 0, 1, 3⟩, ⟨2, 1, 0, 3⟩, ⟨2, 1, 3, 0⟩, ⟨2, 3, 0, 1⟩, ⟨2, 3, 1, 0⟩,
    ⟨3, 0, 1, 2⟩, ⟨3, 0, 2, 1⟩, ⟨3, 1, 0, 2⟩, ⟨3, 1, 2, 0⟩, ⟨3, 2, 0, 1⟩ ]

/-- The inverted form of a pattern: the level of each dibit negated (R505). -/
def invertPattern (inv : Bool) (p : List Dibit) : List Dibit := if inv then p.map (fun d => d ^^^ 2#2) else p

/-- The last `n` dibits of the shift register, oldest first (R512). -/
def srWindow (sr : List Dibit) (n : Nat) : List Dibit := (sr.take n).reverse

/-- The number of places at which a mapped window and a pattern differ (R512, R520). -/
def mismatches (f : Dibit → Dibit) (window pattern : List Dibit) : Nat :=
  (List.zipWith (fun x p => f x != p) window pattern).countP id

/-- The expected sync of the permutation search: P25P1 in the polarity of SYNC_POL bit 0 (R520). -/
def permTarget (p : Params R) (cfg : CsrFile) : List Dibit := invertPattern ((cfg.get .syncPol).getLsbD 0) p.p25p1

/-- `dist(π)` (R520). -/
def permDist (p : Params R) (s : State.Of R) (π : Perm) : Nat :=
  mismatches π.apply (srWindow s.sync.sr 24) (permTarget p s.cfg)

/-- `PermStep()` (R520). -/
def permStep (p : Params R) (s : State.Of R) : State.Of R :=
  let thr := s.cfg.field .permThr 0 8
  if s.sync.srn < 24 then s
  else if s.permLock && decide (permDist p s s.perm ≤ thr) then s
  else
    match permCandidates.find? (fun π => decide (permDist p s π ≤ thr)) with
    | some π => { s with perm := π, permLock := true }
    | none => s

/-- STAGE.PERM (R520), CQPSK path. -/
def stagePerm (p : Params R) (s : State.Of R) : State.Of R := if s.permOn then permStep p s else s

/-! ## Scanner -/

/-- The polarity under test of an entry's protocol (R121, R512). -/
def entryInverted (cfg : CsrFile) (e : SyncEntry) : Bool := (cfg.get .syncPol).getLsbD e.proto

/-- Does an entry match the shift register (R512)? Its protocol is enabled, its pattern is not OPEN, it exists in the
polarity under test, the register holds enough dibits, and at most SYNC_TOL of them differ. -/
def entryMatches (s : State.Of R) (e : SyncEntry) : Bool :=
  match e.pattern with
  | none => false
  | some p =>
    let inv := entryInverted s.cfg e
    (s.cfg.get .syncProtoEn).getLsbD e.proto && !(inv && e.invertedId.isNone) && decide (p.length ≤ s.sync.srn)
      && decide (mismatches s.correct (srWindow s.sync.sr p.length) (invertPattern inv p) ≤ s.cfg.field .syncTol 0 8)

/-- The sync type ID an entry gives in the polarity under test (R512). -/
def entryId (cfg : CsrFile) (e : SyncEntry) : Int :=
  if entryInverted cfg e then e.invertedId.getD e.normalId else e.normalId

/-- The start of a detection: the sync type record, and no warm-start or resample-on-sync yet (R512). -/
def detectStart (s : State.Of R) (e : SyncEntry) : State.Of R :=
  { s with
    sync := { s.sync with type := entryId s.cfg e, last := s.sync.type, pos := s.symcount - 1 }
    work := { s.work with syncLen := e.syncLen, ws := wsNone, ros := none } }

/-- The `perm` field of a sync event (R512). -/
def State.Of.permField (s : State.Of R) : BitVec 8 := if s.permOn then s.perm.bits else 0#8

/-- The end of a detection: the event is pushed, and the next detection needs a whole new window (R512). -/
def detectEnd (s : State.Of R) : State.Of R :=
  let s1 := s.syncPush ⟨s.sync.type, s.sync.pos, s.work.ws, s.permField, s.work.ros⟩
  { s1 with sync := { s1.sync with srn := 0 } }

/-- `Detect(e, inv)` (R512): resample-on-sync for a DMR entry while STAGE_EN.DMR_ROS is 1, else the warm-start. -/
def detect (p : Params R) (s : State.Of R) (e : SyncEntry) : State.Of R :=
  let s1 := detectStart s e
  detectEnd (if e.proto = dmrProto ∧ s1.on .dmrRos then stageDmrRos p s1 else stageWs p.real s1)

/-- The dibit enters the shift register (R512). -/
def srPush (s : State.Of R) (d : Dibit) : State.Of R :=
  { s with sync := { s.sync with sr := push s.sync.sr d, srn := min (s.sync.srn + 1) syncSrLen } }

/-- `Scan(d, dout)` (R512); the rule reads only the raw dibit `d`. -/
def scan (p : Params R) (s : State.Of R) (d : Dibit) : State.Of R :=
  let s1 := stagePerm p (srPush s d)
  match p.syncTable.find? (entryMatches s1) with
  | some e => detect p s1 e
  | none => s1

/-- STAGE.SCAN (R512): the scanner on the symbol in the chain. -/
def stageScan (p : Params R) (s : State.Of R) : State.Of R := if s.on .scan then scan p s s.work.d else s

/-! ## Symbol chain -/

/-- The slicer input of a symbol: the scaled real part on the FM family, the extracted phase on the CQPSK path (R345,
R450). The real part is taken also of a symbol whose imaginary part is not 0, which the TED can emit on the FM family after a
change of MODE (DESIGN CHOICE, notes/assumptions/20.md). -/
def slicerInput (p : Params R) (cfg : CsrFile) (z : Cplx R) : R :=
  if cfg.cqpsk then phaseValue p z else p.real.mul (cfg.realAs p.real .symScale) z.re

/-- The part of the symbol step before the scanner (R458): decision and reliability with the current fields, history,
rolling update on the FM family, count, `SYM_OUT` entry. -/
def sliceSymbol (p : Params R) (s : State.Of R) (x : R) : State.Of R :=
  let d := s.dibitOf p.real x
  let dout := s.correct d
  let rel := s.reliability p x
  let s1 := { s with sh := s.sh.push x dout rel }
  let s2 := if s.cq then s1 else rolling p.real s1
  let s3 := { s2 with symcount := s2.symcount + 1, work := { s2.work with d := d, nsym := s2.work.nsym + 1 } }
  s3.symPush ⟨dout, rel, x, s2.symcount⟩

/-- The symbol step (R458). -/
def symbolStep (p : Params R) (s : State.Of R) (x : R) : State.Of R := stageScan p (sliceSymbol p s x)

/-- STAGE.SLICE (R458), both paths: every symbol of the stream runs the chain; where SLICE is 0 the symbols are
discarded. -/
def stageSlice (p : Params R) (s : State.Of R) : State.Of R :=
  let t := if s.on .slice then s.work.xs.foldl (fun t z => symbolStep p t (slicerInput p t.cfg z)) s else s
  { t with work := { t.work with xs := [] } }

/-! ## Classification -/

/-- The predicate bits of R530, as the sets of IDs each is true for. -/
def predicateTable : List (List Int) :=
  [ [0, 1], [35, 36], [10, 11, 12, 13], [32, 33, 34], [6, 7, 18, 19], [8, 9, 16, 17, 76, 77, 86, 87, 98, 99],
    [28, 29], [30, 31], [20, 21, 22, 23, 24, 25, 26, 27], [37, 38],
    [1, 3, 5, 7, 9, 11, 13, 15, 17, 19, 24, 25, 26, 27, 29, 31, 36, 38, 77, 87, 99] ]

/-- `Predicates(id)`, 11 bits (R530). -/
def predicates (id : Int) : BitVec 11 :=
  BitVec.ofNat 11 ((predicateTable.zipIdx.map (fun e => if e.1.contains id then 2 ^ e.2 else 0)).sum)

/-! ## The meanings of the stage instructions -/

/-- STAGE.SLICE on the stream of the block in progress, with the default parameters. -/
def execStageSlice (s : State) : Host.Outcome State Fault Refusal := .next (stageSlice Params.default s)
/-- STAGE.SCAN on the symbol in the chain, with the default parameters. -/
def execStageScan (s : State) : Host.Outcome State Fault Refusal := .next (stageScan Params.default s)
/-- STAGE.PERM on the shift register, with the default parameters. -/
def execStagePerm (s : State) : Host.Outcome State Fault Refusal := .next (stagePerm Params.default s)

end Sys2Proof.Machine
end

