-- ==== Sys2Proof/Machine/FrontEnd.lean ====
section
/-! DEFINITION. Stages 1 to 6 (41_frontend.md R270 to R282): fs/4 shift, half-band cascade, DC block, FM AGC, limiter, IQ
balance. Each stage maps the stream `work.xs` and its own state; where its STAGE_EN bit is 0, or the path is not its own,
it is the identity (R260). -/

namespace Sys2Proof.Machine

variable {R : Type}

/-! ## Stage 1 -/

/-- Multiplication by `j^n`, n in 0..3 (R270). -/
def rotateBy (F : RealFormat R) (n : Nat) (x : Cplx R) : Cplx R :=
  match n with
  | 0 => x
  | 1 => ⟨F.neg x.im, x.re⟩
  | 2 => ⟨F.neg x.re, F.neg x.im⟩
  | _ => ⟨x.im, F.neg x.re⟩

/-- One sample of the fs/4 shift (R270). -/
def fs4Step (F : RealFormat R) (n : Nat) (x : Cplx R) : Nat × List (Cplx R) := ((n + 1) % 4, [rotateBy F n x])

/-- STAGE.FS4 (R270), every path. -/
def stageFs4 (F : RealFormat R) (s : State.Of R) : State.Of R :=
  if s.on .fs4 then
    let a := transduce (fs4Step F) s.fs4n s.work.xs
    { s with fs4n := a.1, work := { s.work with xs := a.2 } }
  else s

/-! ## Stage 2 -/

/-- One sample of one half-band stage (R272): an output at every second input, over the window newest first. -/
def hbStep (p : Params R) (st : HbStage R) (x : Cplx R) : HbStage R × List (Cplx R) :=
  (⟨push st.h x, !st.ph⟩, if st.ph then [p.real.fir p.hbTaps (x :: st.h)] else [])

/-- The first `n` stages of the cascade, each fed by the one before (R272). -/
def hbCascade (p : Params R) : Nat → List (HbStage R) → List (Cplx R) → List (HbStage R) × List (Cplx R)
  | 0, hs, xs => (hs, xs)
  | _ + 1, [], xs => ([], xs)
  | n + 1, h :: hs, xs =>
    let a := transduce (hbStep p) h xs
    let b := hbCascade p n hs a.2
    (a.1 :: b.1, b.2)

/-- STAGE.HB (R272), every path. -/
def stageHb (p : Params R) (s : State.Of R) : State.Of R :=
  if s.on .hb then
    let a := hbCascade p (s.cfg.field .hbStages 0 3) s.hb s.work.xs
    { s with hb := a.1, work := { s.work with xs := a.2 } }
  else s

/-! ## Stage 3 -/

/-- One sample of the DC block: the estimate is updated, then subtracted (R275). -/
def dcbStep (F : RealFormat R) (k : Nat) (dc x : Cplx R) : Cplx R × List (Cplx R) :=
  let dc' := F.cema (F.ofRat 1 (2 ^ k)) dc x
  (dc', [F.csub x dc'])

/-- STAGE.DCB (R275), every path. -/
def stageDcb (F : RealFormat R) (s : State.Of R) : State.Of R :=
  if s.on .dcb then
    let a := transduce (dcbStep F (s.cfg.field .dcbK 0 4)) s.dc s.work.xs
    { s with dc := a.1, work := { s.work with xs := a.2 } }
  else s

/-! ## Stage 4 -/

/-- The gain after a sample whose RMS estimate is `r` (R277): it moves towards `T/r` at or above the minimum RMS, by the
attack coefficient when it falls and the release coefficient when it rises. -/
def agcGain (F : RealFormat R) (cfg : CsrFile) (g r : R) : R :=
  if F.le (cfg.realAs F .agcMin) r && F.lt F.zero r then
    let gt := F.div (cfg.realAs F .agcTarget) r
    F.ema (if F.lt gt g then cfg.realAs F .agcAttack else cfg.realAs F .agcRelease) g gt
  else g

/-- One sample of the FM AGC (R277). -/
def agcStep (F : RealFormat R) (cfg : CsrFile) (a : Agc R) (z : Cplx R) : Agc R × List (Cplx R) :=
  let p := F.ema (cfg.realAs F .agcEnv) a.p (F.norm z)
  let g := agcGain F cfg a.g (F.sqrt p)
  (⟨p, g⟩, [F.scale g z])

/-- STAGE.AGC (R277), FM family only. -/
def stageAgc (F : RealFormat R) (s : State.Of R) : State.Of R :=
  if s.on .agc && !s.cq then
    let a := transduce (agcStep F s.cfg) s.agc s.work.xs
    { s with agc := a.1, work := { s.work with xs := a.2 } }
  else s

/-! ## Stage 5 -/

/-- The limiter (R280): outside the closed window [0.5, 2.0]·T a nonzero sample is rescaled to magnitude T. -/
def limit (F : RealFormat R) (t : R) (z : Cplx R) : Cplx R :=
  let m := F.cabs z
  if F.lt F.zero m && (F.lt m (F.mul (half F) t) || F.lt (F.mul (F.ofNat 2) t) m) then
    F.scale (F.div t m) z
  else z

/-- STAGE.LIM (R280), FM family only; it has no state (R48). -/
def stageLim (F : RealFormat R) (s : State.Of R) : State.Of R :=
  if s.on .lim && !s.cq then
    { s with work := { s.work with xs := s.work.xs.map (limit F (s.cfg.realAs F .agcTarget)) } }
  else s

/-! ## Stage 6 -/

/-- One sample of the IQ balance (R282): the estimate is updated, then the sample is corrected where |α| exceeds the
threshold. -/
def iqbStep (F : RealFormat R) (mu thr : R) (b : Iqb R) (z : Cplx R) : Iqb R × List (Cplx R) :=
  let c := F.cema mu b.c (F.cmul z z)
  let p := F.ema mu b.p (F.norm z)
  let a := if F.lt F.zero p then F.divReal c p else F.czero
  let y :=
    if F.lt thr (F.cabs a) then F.csub z (F.cmul (F.divReal a (F.ofNat 2)) (F.conj z)) else z
  (⟨c, p, a⟩, [y])

/-- STAGE.IQB (R282), every path. -/
def stageIqb (F : RealFormat R) (s : State.Of R) : State.Of R :=
  if s.on .iqb then
    let a := transduce (iqbStep F (s.cfg.realAs F .iqbMu) (s.cfg.realAs F .iqbThr)) s.iqb s.work.xs
    { s with iqb := a.1, work := { s.work with xs := a.2 } }
  else s

/-! ## The meanings of the stage instructions -/

/-- STAGE.FS4 on the stream of the block in progress. -/
def execStageFs4 (s : State) : Host.Outcome State Fault Refusal := .next (stageFs4 .binary32 s)
/-- STAGE.HB on the stream of the block in progress, with the default parameters. -/
def execStageHb (s : State) : Host.Outcome State Fault Refusal := .next (stageHb Params.default s)
/-- STAGE.DCB on the stream of the block in progress. -/
def execStageDcb (s : State) : Host.Outcome State Fault Refusal := .next (stageDcb .binary32 s)
/-- STAGE.AGC on the stream of the block in progress. -/
def execStageAgc (s : State) : Host.Outcome State Fault Refusal := .next (stageAgc .binary32 s)
/-- STAGE.LIM on the stream of the block in progress. -/
def execStageLim (s : State) : Host.Outcome State Fault Refusal := .next (stageLim .binary32 s)
/-- STAGE.IQB on the stream of the block in progress. -/
def execStageIqb (s : State) : Host.Outcome State Fault Refusal := .next (stageIqb .binary32 s)

end Sys2Proof.Machine
end

