-- ==== Sys2Proof/Machine/Block.lean ====
section
/-! DEFINITION. The block procedure `Block(N)` of R261 with the mode paths of R260. -/

namespace Sys2Proof.Machine

variable {R : Type}

/-- The first `n` entries of `IQ_IN` leave the port and become the block's stream, in order (R142, R261). -/
def popSamples (F : RealFormat R) (s : State.Of R) (n : Nat) : State.Of R :=
  { s with
    ports := { s.ports with iqIn := s.ports.iqIn.drop n }
    work := { (Work.idle : Work R) with xs := (s.ports.iqIn.take n).map (IqSample.toCplx F) } }

/-- The CQPSK path: stages 1, 2, 3, 6, 14, 16, 7, then 8 or 9, 10, the differential phasor, the slicer chain (R260). -/
def cqpskPath (p : Params R) (s : State.Of R) : State.Of R :=
  let F := p.real
  stageSlice p (stageDiff F (stageEq F (stageTed F (stageCostas F (stageBefll F (stageResamp F (stageChlpf F (stageIqb F
    (stageDcb F (stageHb p (stageFs4 F s)))))))))))

/-- The FM-family path: stages 1 to 6, 11, 12, 13, 14, 15, 16, the audio output, 9, the slicer chain (R260, R262,
R440). After stage 12 the stream is real. -/
def fmPath (p : Params R) (s : State.Of R) : State.Of R :=
  let F := p.real
  stageSlice p (stageTed F (audioOutput p (stageResamp F (stageAlpf F (stageChlpf F (stageDeemph F (realStream F
    (stageDisc p (stageLfll F (stageIqb F (stageLim F (stageAgc F (stageDcb F (stageHb p (stageFs4 F s)))))))))))))))

/-- The stages of the active path, in order (R260, R261). -/
def runPath (p : Params R) (s : State.Of R) : State.Of R := if s.cq then cqpskPath p s else fmPath p s

/-- What precedes the stages: a pending retune reset, the latch, the design step (R261, R262). -/
def prepare (p : Params R) (s : State.Of R) : State.Of R := design p (applyRetune p s).latch

/-- `Block(N)`: the state after it, its stream gone, and the number of symbols sliced (R261). -/
def block (p : Params R) (s : State.Of R) (n : Nat) : State.Of R × Nat :=
  let t := runPath p (popSamples p.real (prepare p s) n)
  ({ t with work := Work.idle }, t.work.nsym)

end Sys2Proof.Machine
end

