-- ==== Sys2Proof/Machine/Commands.lean ====
section
/-! DEFINITION. The ten control commands (40_commands.md R220 to R230). A command's words stand at the head of `CMD` while it
runs; ending it consumes them (`State.respond`). The must-be-zero fields are checked by the decoder (R185), so a meaning
starts after that check; waiting changes no state (R148). A command that reads a parameter of R8 has a form for any
`Params` or any format REAL, and its meaning is that form at the defaults. -/

namespace Sys2Proof.Machine

variable {R : Type}

/-- `NOP` (R220). -/
def execNop (s : State.Of R) : Host.Outcome (State.Of R) Fault Refusal := .next (s.done 1 0#24)

/-- `CSRW csr, value` (R221): unmapped, STATUS, read-only, illegal, and then the write. -/
def execCsrw (csr : BitVec 12) (data : Word) (s : State.Of R) : Host.Outcome (State.Of R) Fault Refusal :=
  match Csr.ofAddr csr with
  | none => .next (s.raise 2 .badCsr)
  | some .status => .next ((s.writeStatus data).done 2 0#24)
  | some (.ro _) => .next (s.raise 2 .roCsr)
  | some (.rw r) => if r.legal data then .next ((s.writeRw r data).done 2 0#24) else .next (s.raise 2 .badValue)

/-- `CSRR csr` (R222): the response word, then the value. -/
def execCsrrWith (F : RealFormat R) (csr : BitVec 12) (s : State.Of R) : Host.Outcome (State.Of R) Fault Refusal :=
  match Csr.ofAddr csr with
  | none => .next (s.raise 1 .badCsr)
  | some c => .next (s.respond 1 .ok 0#24 [s.readCsr F c])

/-- `CSRR csr` in the default format. -/
def execCsrr (csr : BitVec 12) (s : State) : Host.Outcome State Fault Refusal := execCsrrWith .binary32 csr s

/-- `PROC` (R223): the configuration check, the wait for BLOCK_LEN samples, then one block; the payload is the number of
symbols sliced modulo 2^24 (R192). -/
def execProcWith (p : Params R) (s : State.Of R) : Host.Outcome (State.Of R) Fault Refusal :=
  if s.csr.configOk p then
    if s.csr.blockLength ≤ s.ports.iqIn.length then
      .next ((block p s s.csr.blockLength).1.done 1 (BitVec.ofNat 24 (block p s s.csr.blockLength).2))
    else .next s
  else .next (s.raise 1 .badConfig)

/-- `PROC` of the block with the default parameters. -/
def execProc (s : State) : Host.Outcome State Fault Refusal := execProcWith Params.default s

/-- `RETUNE_RESET` (R225): only the request is recorded. -/
def execRetuneReset (s : State.Of R) : Host.Outcome (State.Of R) Fault Refusal := .next ({ s with rr := true }.done 1 0#24)

/-- `RESET` (R226): the power-on state, the ports kept. -/
def execResetWith (p : Params R) (s : State.Of R) : Host.Outcome (State.Of R) Fault Refusal := .next ((s.powerOn p).done 1 0#24)

/-- `RESET` of the block with the default parameters. -/
def execReset (s : State) : Host.Outcome State Fault Refusal := execResetWith Params.default s

/-- `WSTART sync_len` (R227). -/
def execWstartWith (F : RealFormat R) (syncLen : Nat) (s : State.Of R) : Host.Outcome (State.Of R) Fault Refusal :=
  if 2048 < syncLen then .next (s.raise 1 .badValue)
  else .next ((warmStart F s.latch syncLen).1.done 1 ((warmStart F s.latch syncLen).2.code.setWidth 24))

/-- `WSTART sync_len` in the default format. -/
def execWstart (syncLen : Nat) (s : State) : Host.Outcome State Fault Refusal := execWstartWith .binary32 syncLen s

/-- `WSTART_CQ sync_len` (R228). -/
def execWstartCqWith (F : RealFormat R) (syncLen : Nat) (s : State.Of R) : Host.Outcome (State.Of R) Fault Refusal :=
  if 2048 < syncLen then .next (s.raise 1 .badValue)
  else .next ((warmStartCq F s.latch syncLen).1.done 1 ((warmStartCq F s.latch syncLen).2.code.setWidth 24))

/-- `WSTART_CQ sync_len` in the default format. -/
def execWstartCq (syncLen : Nat) (s : State) : Host.Outcome State Fault Refusal := execWstartCqWith .binary32 syncLen s

/-- The payload of `DMR_ROS`: ran in bit 7, best in 6:4, the warm-start result in 2:0 (R192, R229). -/
def rosPayload (r : RosResult) : BitVec 24 :=
  (BitVec.ofBool r.ran ++ BitVec.ofNat 3 r.best ++ 0#1 ++ r.ws.code).setWidth 24

/-- The `SYNC_OUT` entry of an on-demand resample-on-sync that ran (R480). -/
def rosEvent (s : State.Of R) (r : RosResult) : State.Of R :=
  if r.ran then s.syncPush ⟨s.sync.type, s.symcount - 1, r.ws.code, s.permField, some ⟨r.best, r.dibits⟩⟩ else s

/-- `DMR_ROS` (R229): resample-on-sync on demand, whether or not STAGE_EN.DMR_ROS is set. -/
def execDmrRosWith (p : Params R) (s : State.Of R) : Host.Outcome (State.Of R) Fault Refusal :=
  .next ((rosEvent (dmrRos p s.latch).1 (dmrRos p s.latch).2).done 1 (rosPayload (dmrRos p s.latch).2))

/-- `DMR_ROS` of the block with the default parameters. -/
def execDmrRos (s : State) : Host.Outcome State Fault Refusal := execDmrRosWith Params.default s

/-- `CLASSIFY id` (R230); it reads no state. -/
def execClassify (id : Int) (s : State.Of R) : Host.Outcome (State.Of R) Fault Refusal :=
  .next (s.done 1 ((predicates id).setWidth 24))

end Sys2Proof.Machine
end

