-- ==== Sys2Proof/Machine/Dispatch.lean ====
section
/-! DEFINITION. One arm per instruction (40_commands.md R231; 30_encoding.md R194 for the stage operations). -/

namespace Sys2Proof.Machine

/-- The meaning of an instruction. -/
def exec (i : Instr) (s : State) : Host.Outcome State Fault Refusal :=
  match i with
  | .nop => Sys2Proof.Machine.execNop s
  | .csrw csr data => Sys2Proof.Machine.execCsrw csr data s
  | .csrr csr => Sys2Proof.Machine.execCsrr csr s
  | .proc => Sys2Proof.Machine.execProc s
  | .retuneReset => Sys2Proof.Machine.execRetuneReset s
  | .reset => Sys2Proof.Machine.execReset s
  | .wstart syncLen => Sys2Proof.Machine.execWstart syncLen s
  | .wstartCq syncLen => Sys2Proof.Machine.execWstartCq syncLen s
  | .dmrRos => Sys2Proof.Machine.execDmrRos s
  | .classify id => Sys2Proof.Machine.execClassify id s
  | .stageFs4 => Sys2Proof.Machine.execStageFs4 s
  | .stageHb => Sys2Proof.Machine.execStageHb s
  | .stageDcb => Sys2Proof.Machine.execStageDcb s
  | .stageAgc => Sys2Proof.Machine.execStageAgc s
  | .stageLim => Sys2Proof.Machine.execStageLim s
  | .stageIqb => Sys2Proof.Machine.execStageIqb s
  | .stageBefll => Sys2Proof.Machine.execStageBefll s
  | .stageCostas => Sys2Proof.Machine.execStageCostas s
  | .stageTed => Sys2Proof.Machine.execStageTed s
  | .stageEq => Sys2Proof.Machine.execStageEq s
  | .stageLfll => Sys2Proof.Machine.execStageLfll s
  | .stageDisc => Sys2Proof.Machine.execStageDisc s
  | .stageDeemph => Sys2Proof.Machine.execStageDeemph s
  | .stageChlpf => Sys2Proof.Machine.execStageChlpf s
  | .stageAlpf => Sys2Proof.Machine.execStageAlpf s
  | .stageResamp => Sys2Proof.Machine.execStageResamp s
  | .stageDiff => Sys2Proof.Machine.execStageDiff s
  | .stageSlice => Sys2Proof.Machine.execStageSlice s
  | .stageScan => Sys2Proof.Machine.execStageScan s
  | .stageWs => Sys2Proof.Machine.execStageWs s
  | .stageDmrRos => Sys2Proof.Machine.execStageDmrRos s
  | .stagePerm => Sys2Proof.Machine.execStagePerm s

end Sys2Proof.Machine
end

