-- ==== Sys2Proof/Machine/Parametric.lean ====
section
/-! DEFINITION. The machine for any parameters of R8: each instruction with the `Params` as an argument. The meanings that
`exec` calls are those of `Params.default`. -/

namespace Sys2Proof.Machine

variable {R : Type}

/-- The meaning of an instruction in the block with the parameters `p` (R8, R231, R194). -/
def execWith (p : Params R) (i : Instr) (s : State.Of R) : Host.Outcome (State.Of R) Fault Refusal :=
  match i with
  | .nop => execNop s
  | .csrw csr data => execCsrw csr data s
  | .csrr csr => execCsrrWith p.real csr s
  | .proc => execProcWith p s
  | .retuneReset => execRetuneReset s
  | .reset => execResetWith p s
  | .wstart syncLen => execWstartWith p.real syncLen s
  | .wstartCq syncLen => execWstartCqWith p.real syncLen s
  | .dmrRos => execDmrRosWith p s
  | .classify id => execClassify id s
  | .stageFs4 => .next (stageFs4 p.real s)
  | .stageHb => .next (stageHb p s)
  | .stageDcb => .next (stageDcb p.real s)
  | .stageAgc => .next (stageAgc p.real s)
  | .stageLim => .next (stageLim p.real s)
  | .stageIqb => .next (stageIqb p.real s)
  | .stageBefll => .next (stageBefll p.real s)
  | .stageCostas => .next (stageCostas p.real s)
  | .stageTed => .next (stageTed p.real s)
  | .stageEq => .next (stageEq p.real s)
  | .stageLfll => .next (stageLfll p.real s)
  | .stageDisc => .next (stageDisc p s)
  | .stageDeemph => .next (stageDeemph p.real s)
  | .stageChlpf => .next (stageChlpf p.real s)
  | .stageAlpf => .next (stageAlpf p.real s)
  | .stageResamp => .next (stageResamp p.real s)
  | .stageDiff => .next (stageDiff p.real s)
  | .stageSlice => .next (stageSlice p s)
  | .stageScan => .next (stageScan p s)
  | .stageWs => .next (stageWs p.real s)
  | .stageDmrRos => .next (stageDmrRos p s)
  | .stagePerm => .next (stagePerm p s)

end Sys2Proof.Machine
end

