-- ==== Sys2Proof/Machine/Step.lean ====
section
/-! DEFINITION. One step of the block agent (R155, R231, R576): it takes the command at the head of `CMD` and runs it to
completion; it waits while none is there. -/

namespace Sys2Proof.Machine

variable {R : Type}

/-- One step of what the fetch found: a wait changes nothing (R148), an illegal or malformed word raises its error (R186),
a command runs as `run` gives its meaning. -/
def runFetch (run : Instr → State.Of R → Host.Outcome (State.Of R) Fault Refusal) (f : Fetch) (s : State.Of R) :
    Host.Outcome (State.Of R) Fault Refusal :=
  match f with
  | .wait => .next s
  | .illegalOp => .next (s.raise 1 .illegalOp)
  | .badFormat words => .next (s.raise words .badFormat)
  | .instr i => run i s

/-- One step of the block, with the default parameters. -/
def step (s : State) : Host.Outcome State Fault Refusal := runFetch exec (decode s.ports.cmd) s

/-- One step of the block with the parameters `p` (R8). -/
def stepWith (p : Params R) (s : State.Of R) : Host.Outcome (State.Of R) Fault Refusal :=
  runFetch (execWith p) (decode s.ports.cmd) s

/-! ## Placing an instruction where the next step takes it -/

/-- The words of a command: the second one only where the opcode takes two (R180). -/
def commandWords (v : Word × Word) : List Word :=
  match Op.ofCode (opField v.1) with
  | some o => if o.words = 2 then [v.1, v.2] else [v.1]
  | none => [v.1]

/-- The state with the words of a command at the head of `CMD`. -/
def State.Of.withCommand (s : State.Of R) (ws : List Word) : State.Of R :=
  { s with ports := { s.ports with cmd := ws ++ s.ports.cmd } }

/-- The state whose next `PROC` is a block of one sample: BLOCK_LEN is 1 and one sample stands first in `IQ_IN`. -/
def State.Of.withOneSample (s : State.Of R) : State.Of R :=
  { s with
    csr := s.csr.set .blockLen 1#32
    ports := { s.ports with iqIn := ⟨0x4000#16, 0#16⟩ :: s.ports.iqIn } }

/-- The MODE on whose path a stage runs: CQPSK for the stages of that path alone, else C4FM (R260). -/
def stageMode : Instr → Word
  | .stageBefll => 2#32
  | .stageCostas => 2#32
  | .stageEq => 2#32
  | .stageDiff => 2#32
  | .stagePerm => 2#32
  | _ => 1#32

/-- The state whose next `PROC` runs the stages of a STAGE_EN value: the value, the mode of the stage's path, and a rate,
a channel profile and an audio cutoff that R263 accepts. -/
def State.Of.withStages (s : State.Of R) (v : Word) (i : Instr) : State.Of R :=
  let f := (((s.csr.set .stageEn (v &&& Rw.mask .stageEn)).set .mode (stageMode i)).set .fsIn 48000#32).set .alpfFc 3000#32
  { s with csr := (f.set .chlpfFc0 12000#32).set .chlpfTw0 16000#32 }

/-- The state in which the next step runs the instruction that the opcode table writes as the `nbits`-bit number `w`. A
command word goes to the head of `CMD`; with `PROC` goes a block of one sample, so that the step does not wait. A stage
operation is run by `PROC` (R194), so the state gets STAGE_EN = `w` and a `PROC` of one sample. -/
def State.withFetchWord (s : State) (nbits w : Nat) : State :=
  let v := tableWords nbits w
  match decodeTableWord nbits w with
  | some i =>
    if i.stage.isSome then ((s.withStages v.1 i).withOneSample).withCommand (encode .proc)
    else if i = .proc then (s.withOneSample).withCommand (commandWords v)
    else s.withCommand (commandWords v)
  | none => s.withCommand (commandWords v)

end Sys2Proof.Machine
end

