-- ==== Sys2Proof/Safety.lean ====
section
/-! DEFINITION. The terms that statements about the block use: what a state of the block always satisfies, in parts and
whole (`State.inv`), and running a list of instructions. -/

namespace Sys2Proof.Machine

variable {R : Type}

/-! ## Control registers -/

/-- A stored CSR word holds only legal values, and its reserved bits are 0 (R71). -/
def Rw.holds (r : Rw) (w : Word) : Bool := r.legal w && (w &&& ~~~r.mask == 0#32)

/-- Every read-write CSR holds a legal value with its reserved bits 0. -/
def CsrFile.wf (f : CsrFile) : Bool := allRw.all (fun r => r.holds (f.get r))

/-! ## State elements -/

/-- A half-band stage keeps the last T − 1 inputs (R45). -/
def HbStage.wf (h : HbStage F32) : Bool := h.h.length == Params.default.hbTaps.length - 1

/-- The TED keeps `twice_sps + 2` samples, and `omega` is the same number of samples per symbol (R52). -/
def Ted.wf (d : Ted F32) : Bool :=
  d.h.length == d.twiceSps + 2 && d.twiceSps % 2 == 0 && d.omega == F32.ofNat (d.twiceSps / 2)

/-- The band-edge FLL keeps the last 2·sps rotated samples, and has 2·sps + 1 taps for each edge, `sps` being the TED_SPS it
was designed from (R50, R66); before its first design it has the sizes of reset. -/
def BeFll.fits (b : BeFll F32) : Option (List Word) → Bool
  | none => b.h.length == 10 && b.up == [] && b.lo == []
  | some [k] =>
    b.h.length == 2 * (k.toNat % 256) && b.up.length == 2 * (k.toNat % 256) + 1
      && b.lo.length == 2 * (k.toNat % 256) + 1
  | some _ => false

/-- The channel LPF keeps one sample less than it has taps (R58); before its first design it has neither. -/
def ChLpf.fits (c : ChLpf F32) : Option (List Word) → Bool
  | none => c.taps == [] && c.h == []
  | some _ => c.h.length + 1 == c.taps.length

/-- The resampler keeps the last K samples, has K·L taps (none where the reduced L and M are equal), and its accumulator is
in 0..M − 1, for the RS_L, RS_M and RS_K it was designed from (R59, R66, R430); before its first design it is as at reset. -/
def Resamp.fits (r : Resamp F32) : Option (List Word) → Bool
  | none => r.taps == [] && r.h.length == 16 && r.acc == 0
  | some [l, m, k] =>
    let g := Nat.gcd (l.toNat % 65536) (m.toNat % 65536)
    let rl := l.toNat % 65536 / g
    let rm := m.toNat % 65536 / g
    r.h.length == k.toNat % 32 && r.taps.length == (if rl = rm then 0 else k.toNat % 32 * rl) && decide (r.acc < rm)
  | some _ => false

/-- The equalizer's arrays have their sizes and the warmup counter is a 16-bit value (R54). -/
def Equalizer.wf (q : Equalizer F32) : Bool :=
  q.w.length == ffeLenMax && q.v.length == ffeLenMax && q.b.length == dfeLenMax && q.x.length == ffeLenMax
    && q.d.length == dfeLenMax && decide (q.cma ≤ 65535)

/-- The slicer's buffers have their sizes, its indices are in range, and the derived thresholds are those of `max`, `min`
and `center` (R60, R455). -/
def Slicer.wf (sl : Slicer F32) : Bool :=
  sl.maxbuf.length == slBufLen && sl.minbuf.length == slBufLen && decide (sl.midx < slBufLen)
    && decide (sl.fill ≤ slBufLen) && sl == sl.derive .binary32

/-- The rings of the symbol history have their sizes and the index and count are in range (R61). -/
def History.wf (h : History R) : Bool :=
  h.v.length == symHistLen && h.d.length == symHistLen && h.r.length == symHistLen && decide (h.w < symHistLen)
    && decide (h.n ≤ symHistLen)

/-- The closed set of sync type IDs, None among them (R503). -/
def syncTypeIds : List Int :=
  [-1, 0, 1, 2, 3, 4, 5, 6, 7, 8, 9, 10, 11, 12, 13, 14, 15, 16, 17, 18, 19, 20, 21, 22, 23, 24, 25, 26, 27, 28, 29, 30, 31,
    32, 33, 34, 35, 36, 37, 38, 39, 40, 76, 77, 86, 87, 98, 99]

/-- The sync record holds IDs of the closed set, and the shift register has 64 places (R62). -/
def Sync.wf (y : Sync) : Bool :=
  syncTypeIds.contains y.type && syncTypeIds.contains y.last && y.sr.length == syncSrLen && decide (y.srn ≤ syncSrLen)

/-- `s.perm.p` is a permutation of {0, 1, 2, 3} (R63): one of the 24. -/
def Perm.wf (p : Perm) : Bool := permCandidates.contains p

/-- The bounded ports are within their capacity (R143, R146). -/
def Ports.wf (p : Ports F32) : Bool :=
  decide (p.iqIn.length ≤ Params.default.iqCap - 1) && decide (p.audioOut.length ≤ Params.default.audioCap - 1)

/-- The recorded codes are codes the block produces: a status of R191, a warm-start result other than NULL_STATE (R193). -/
def State.codesWf (s : State) : Bool := decide (s.lastErr.toNat ≤ 6) && decide (s.lastWs.toNat ≤ 3)

/-- What holds of the block between two commands, whatever commands it has run: legal CSRs and latched CSRs, sizes and
ranges of every array, index and counter, the arrays of a designed set having the sizes of its design, IDs of the closed
sets, ports within their capacity, no block in progress. -/
def State.inv (s : State) : Bool :=
  s.csr.wf && s.cfg.wf && decide (s.fs4n < 4) && (s.hb.length == hbStagesMax && s.hb.all HbStage.wf) && s.ted.wf
    && s.be.fits s.key.be && s.ch.fits s.key.ch && s.rs.fits s.key.rs && s.eq.wf && s.sl.wf && s.sh.wf && s.sync.wf
    && s.perm.wf && decide (s.dmr.best < 8) && s.codesWf && s.ports.wf && s.work == Work.idle

/-! ## Running instructions -/

/-- Run instructions one after the other, stopping at the first that does not give a next state. -/
def runInstrs : List Instr → State → Host.Outcome State Fault Refusal
  | [], s => .next s
  | i :: is, s =>
    match exec i s with
    | .next t => runInstrs is t
    | .fault r => .fault r
    | .refused r => .refused r

/-- The stage instructions of the CQPSK path in the order of R260. -/
def cqpskOrder : List Instr :=
  [.stageFs4, .stageHb, .stageDcb, .stageIqb, .stageChlpf, .stageResamp, .stageBefll, .stageCostas, .stageTed, .stageEq,
    .stageDiff, .stageSlice]

/-- The stage instructions of the FM family on the complex stream, in the order of R260. -/
def fmComplexOrder : List Instr :=
  [.stageFs4, .stageHb, .stageDcb, .stageAgc, .stageLim, .stageIqb, .stageLfll, .stageDisc]

/-- Those on the real stream up to the audio output. -/
def fmRealOrder : List Instr := [.stageDeemph, .stageChlpf, .stageAlpf, .stageResamp]

/-- Those after the audio output. -/
def fmSymbolOrder : List Instr := [.stageTed, .stageSlice]

/-! ## The end of a command, as R190 and R552 describe it -/

/-- The state after a command of `words` words that answers with the words `answer`. -/
def State.ended (s : State) (words : Nat) (answer : List Word) : State :=
  { s with ports := { s.ports with cmd := s.ports.cmd.drop words, resp := s.ports.resp ++ answer } }

/-- The state after a command of `words` words that ends with the error `code`: ERR set, LAST_ERR recorded, the response,
nothing else. -/
def State.failed (s : State) (words : Nat) (code : BitVec 8) : State :=
  State.ended { s with err := true, lastErr := code } words [code ++ 0#24]

/-- The state with a stream put in place of the block's stream. -/
def State.withStream (s : State) (xs : List C32) : State := { s with work := { s.work with xs := xs } }

end Sys2Proof.Machine
end

