-- ==== Sys2Proof/Certificates/Slice0/Obligations.lean ====
section
/-! DEFINITION. The statements for the provers, one `def Obligations.<Name> : Prop` each; OBLIGATIONS.json lists them in this
order. A statement about every state holds in states that no run reaches; where it needs an invariant it names it. -/

open Sys2Proof Sys2Proof.Machine

/-! ## Encoding -/

/-- R180 to R185: every well-formed command, encoded and followed by any words on `CMD`, decodes to itself, and takes two
words for `CSRW` and one for every other command. -/
def Obligations.DecodeEncodeCommands : Prop :=
  ∀ i : Instr, i.wellFormed = true → i.stage = none →
    (∀ rest, decode (encode i ++ rest) = .instr i) ∧
      (encode i).length = (match i with | .csrw _ _ => 2 | _ => 1)

/-- R180 to R185: whatever words decode to an instruction begin with the encoding of that instruction, which is a
well-formed command and no stage operation: no two words of a command mean the same. -/
def Obligations.EncodeDecodeCommands : Prop :=
  ∀ (ws : List Word) (i : Instr), decode ws = .instr i →
    i.wellFormed = true ∧ i.stage = none ∧ encode i <+: ws

/-- R76, R194: the STAGE_EN bit of each of the 22 stage operations, written out. The value with that bit alone is the word
that the opcode table gives the operation, names that operation and no other, and the stage runs where that bit of STAGE_EN
is 1. How the table's row is read is the model's choice, notes/assumptions/1.md. -/
def Obligations.StageWordsNameStages : Prop :=
  let table : List (Nat × Instr × Stage) :=
    [(1, .stageFs4, .fs4), (2, .stageHb, .hb), (3, .stageDcb, .dcb), (4, .stageAgc, .agc), (5, .stageLim, .lim),
      (6, .stageIqb, .iqb), (7, .stageBefll, .befll), (8, .stageCostas, .costas), (9, .stageTed, .ted),
      (10, .stageEq, .eq), (11, .stageLfll, .lfll), (12, .stageDisc, .disc), (13, .stageDeemph, .deemph),
      (14, .stageChlpf, .chlpf), (15, .stageAlpf, .alpf), (16, .stageResamp, .resamp), (17, .stageDiff, .diff),
      (18, .stageSlice, .slice), (19, .stageScan, .scan), (20, .stageWs, .ws), (21, .stageDmrRos, .dmrRos),
      (22, .stagePerm, .perm)]
  (∀ e ∈ table,
    e.2.1.stage = some e.2.2 ∧ encode e.2.1 = [BitVec.ofNat 32 (2 ^ e.1)] ∧
      decodeTableWord 32 (2 ^ e.1) = some e.2.1 ∧
      (∀ j, stageSelected (BitVec.ofNat 32 (2 ^ e.1)) j = true → j = e.2.1) ∧
      ∀ f : CsrFile, f.stageOn e.2.2 = (f.get .stageEn).getLsbD e.1) ∧
  ∀ (i : Instr) (k : Stage), i.stage = some k → ∃ n, (n, i, k) ∈ table

/-- R184, R185: words written out from the opcode map decode to the commands they stand for. -/
def Obligations.SpecWordsDecode : Prop :=
  decode [0x00000000#32] = .instr .nop ∧
  decode [0x01002000#32, 0x00000002#32] = .instr (.csrw 0x002#12 0x00000002#32) ∧
  decode [0x02083000#32] = .instr (.csrr 0x083#12) ∧
  decode [0x10000000#32] = .instr .proc ∧
  decode [0x20000000#32] = .instr .retuneReset ∧
  decode [0x21000000#32] = .instr .reset ∧
  decode [0x30000018#32] = .instr (.wstart 24) ∧
  decode [0x31000800#32] = .instr (.wstartCq 2048) ∧
  decode [0x32000000#32] = .instr .dmrRos ∧
  decode [0x4000FFFF#32] = .instr (.classify (-1)) ∧
  decode [0x00000001#32] = .badFormat 1 ∧
  decode [0x01002001#32, 0x00000002#32] = .badFormat 2 ∧
  decode [0x05000000#32] = .illegalOp

/-! ## Dispatch and errors -/

/-- R155, R231: where the words at the head of `CMD` decode to an instruction, the step is that instruction, in the block with
the default parameters and in the block with any parameters of R8, the format REAL and its `rnd` among them. The first is the
second at the defaults. In the default format a parameter shows in `PROC`, `RESET`, `DMR_ROS` and six stage operations alone;
in every format no parameter shows in `NOP`, `CSRW`, `RETUNE_RESET` and `CLASSIFY`. How the parameters and the format enter is
the model's reading, notes/assumptions/21.md and 24.md. -/
def Obligations.StepRunsDecodedInstruction : Prop :=
  (∀ (s : State) (i : Instr), decode s.ports.cmd = .instr i → step s = exec i s) ∧
  (∀ (R : Type) (p : Params R) (s : State.Of R) (i : Instr), decode s.ports.cmd = .instr i → stepWith p s = execWith p i s) ∧
  (∀ (i : Instr) (s : State), execWith Params.default i s = exec i s) ∧
  (∀ (p : Params F32) (i : Instr) (s : State), p.real = RealFormat.binary32 →
    i ∉ [Instr.proc, .reset, .dmrRos, .stageHb, .stageDisc, .stageSlice, .stageScan, .stageDmrRos, .stagePerm] →
    execWith p i s = exec i s) ∧
  (∀ (R : Type) (p q : Params R) (s : State.Of R),
    execWith p .nop s = execWith q .nop s ∧ execWith p .retuneReset s = execWith q .retuneReset s ∧
      (∀ a d, execWith p (.csrw a d) s = execWith q (.csrw a d) s) ∧
      ∀ n, execWith p (.classify n) s = execWith q (.classify n) s)

/-- R186 (a), R231, R552: a word whose OP is not in the opcode map sets ERR, records code 1, answers 0x01000000, and
consumes that one word. -/
def Obligations.IllegalOpcodeStep : Prop :=
  ∀ (s : State) (w : Word) (rest : List Word), s.ports.cmd = w :: rest →
    w.extractLsb' 24 8 ∉ [0x00#8, 0x01#8, 0x02#8, 0x10#8, 0x20#8, 0x21#8, 0x30#8, 0x31#8, 0x32#8, 0x40#8] →
    step s = .next
      { s with err := true, lastErr := 0x01#8
               ports := { s.ports with cmd := rest, resp := s.ports.resp ++ [0x01000000#32] } }

/-- R186 (b), R181 to R183, R552: a command word with a nonzero must-be-zero field sets ERR, records code 2 and answers
0x02000000; a `CSRW` consumes its data word too. -/
def Obligations.MalformedCommandStep : Prop :=
  ∀ (s : State) (w : Word) (rest : List Word) (o : Op), s.ports.cmd = w :: rest → w.extractLsb' 24 8 = o.code →
    (o = .csrw → rest ≠ []) →
    (match o with
      | .csrw => w.extractLsb' 0 12 ≠ 0#12
      | .csrr => w.extractLsb' 0 12 ≠ 0#12
      | .wstart => w.extractLsb' 16 8 ≠ 0#8
      | .wstartCq => w.extractLsb' 16 8 ≠ 0#8
      | .classify => w.extractLsb' 16 8 ≠ 0#8
      | .nop => w.extractLsb' 0 24 ≠ 0#24
      | .proc => w.extractLsb' 0 24 ≠ 0#24
      | .retuneReset => w.extractLsb' 0 24 ≠ 0#24
      | .reset => w.extractLsb' 0 24 ≠ 0#24
      | .dmrRos => w.extractLsb' 0 24 ≠ 0#24) →
    step s = .next (s.failed (if o = .csrw then 2 else 1) 0x02#8)

/-- R148: waiting changes no state: an empty `CMD`, a `CSRW` whose data word has not arrived, a `PROC` whose BLOCK_LEN
samples are not yet in `IQ_IN`. That a wait is a step to the same state is the model's reading, notes/assumptions/3.md. -/
def Obligations.WaitingChangesNothing : Prop :=
  (∀ s : State, s.ports.cmd = [] → step s = .next s) ∧
  (∀ (s : State) (w : Word), s.ports.cmd = [w] → w.extractLsb' 24 8 = 0x01#8 → step s = .next s) ∧
  (∀ s : State, s.csr.configOk Params.default = true → s.ports.iqIn.length < (s.csr.get .blockLen).toNat % 2 ^ 19 →
    exec .proc s = .next s)

/-- R220, whole: `NOP` answers 0x00000000 and changes nothing else, ERR included: as an instruction, and as the step of a
word with OP 0x00, which raises BAD_FORMAT where its bits 23:0 are not 0. -/
def Obligations.NopStep : Prop :=
  (∀ s : State, exec .nop s = .next (s.ended 1 [0x00000000#32])) ∧
  ∀ (s : State) (w : Word) (rest : List Word), s.ports.cmd = w :: rest → w.extractLsb' 24 8 = 0x00#8 →
    step s =
      if w.extractLsb' 0 24 = 0#24 then
        .next { s with ports := { s.ports with cmd := rest, resp := s.ports.resp ++ [0x00000000#32] } }
      else
        .next
          { s with err := true, lastErr := 0x02#8
                   ports := { s.ports with cmd := rest, resp := s.ports.resp ++ [0x02000000#32] } }

/-! ## Control registers -/

/-- R71, R75 to R122, R221, R126: a `CSRW` of a legal value to a read-write CSR stores it with the reserved bits 0, answers 0,
and changes nothing else: no other CSR, not the latched configuration. The table gives each register's address, the bits a
write reaches and its legal values, on bit patterns: REAL fields > 0, ≥ 0 (−0 among them), in (0, 1] or finite. That bits no
rule names are reserved is the model's choice, notes/assumptions/19.md. -/
def Obligations.CsrwStoresLegalValue : Prop :=
  (∀ (s : State) (r : Rw) (d : Word), r.legal d = true →
    exec (.csrw r.addr d) s =
        .next (State.ended { s with csr := s.csr.set r (d &&& r.mask) } 2 [0x00000000#32]) ∧
      (s.csr.set r (d &&& r.mask)).get r = d &&& r.mask ∧
      ∀ q : Rw, q ≠ r → (s.csr.set r (d &&& r.mask)).get q = s.csr.get q) ∧
  (∀ (r : Rw) (d : Word),
    let row : BitVec 12 × Word × Prop :=
      match r with
      | .mode => (0x002#12, 0x00000007#32, (d.extractLsb' 0 3).toNat ≤ 3)
      | .stageEn => (0x003#12, 0x007FFFFE#32, True)
      | .blockLen => (0x004#12, 0x0007FFFF#32, 1 ≤ (d.extractLsb' 0 19).toNat ∧ (d.extractLsb' 0 19).toNat ≤ 262144)
      | .fsIn => (0x005#12, 0xFFFFFFFF#32, True)
      | .hbStages => (0x007#12, 0x00000007#32, (d.extractLsb' 0 3).toNat ≤ 4)
      | .dcbK => (0x008#12, 0x0000000F#32, 10 ≤ (d.extractLsb' 0 4).toNat ∧ (d.extractLsb' 0 4).toNat ≤ 14)
      | .agcTarget => (0x010#12, 0xFFFFFFFF#32, 0 < d.toNat ∧ d.toNat < 0x7F800000)
      | .agcMin => (0x011#12, 0xFFFFFFFF#32, d.toNat < 0x7F800000 ∨ d = 0x80000000#32)
      | .agcAttack => (0x012#12, 0xFFFFFFFF#32, 0 < d.toNat ∧ d.toNat ≤ 0x3F800000)
      | .agcRelease => (0x013#12, 0xFFFFFFFF#32, 0 < d.toNat ∧ d.toNat ≤ 0x3F800000)
      | .agcEnv => (0x014#12, 0xFFFFFFFF#32, 0 < d.toNat ∧ d.toNat ≤ 0x3F800000)
      | .iqbMu => (0x018#12, 0xFFFFFFFF#32, 0 < d.toNat ∧ d.toNat ≤ 0x3F800000)
      | .iqbThr => (0x019#12, 0xFFFFFFFF#32, d.toNat < 0x7F800000 ∨ d = 0x80000000#32)
      | .tedSps => (0x020#12, 0x000000FF#32, 2 ≤ (d.extractLsb' 0 8).toNat)
      | .tedGainQ20 => (0x021#12, 0xFFFFFFFF#32, True)
      | .costasAlpha => (0x028#12, 0xFFFFFFFF#32, d.toNat < 0x7F800000 ∨ d = 0x80000000#32)
      | .costasBeta => (0x029#12, 0xFFFFFFFF#32, d.toNat < 0x7F800000 ∨ d = 0x80000000#32)
      | .costasMaxf => (0x02A#12, 0xFFFFFFFF#32, d.toNat < 0x7F800000 ∨ d = 0x80000000#32)
      | .eqCfg => (0x038#12, 0x001F371F#32, (d.extractLsb' 0 5).toNat % 2 = 1 ∧ (d.extractLsb' 8 3).toNat ≤ 4 ∧
          4 ≤ (d.extractLsb' 16 5).toNat ∧ (d.extractLsb' 16 5).toNat ≤ 16)
      | .eqMuQ15 => (0x039#12, 0x0000FFFF#32, True)
      | .eqStride => (0x03A#12, 0x0000FFFF#32, 1 ≤ (d.extractLsb' 0 16).toNat)
      | .eqCmaWarmup => (0x03B#12, 0x0000FFFF#32, True)
      | .eqWlGateQ15 => (0x03C#12, 0x0000FFFF#32, True)
      | .eqTapSel => (0x03D#12, 0x0000031F#32, (d.extractLsb' 8 2).toNat ≤ 2)
      | .lfllKp => (0x040#12, 0xFFFFFFFF#32, d.extractLsb' 23 8 ≠ 0xFF#8)
      | .lfllKi => (0x041#12, 0xFFFFFFFF#32, d.extractLsb' 23 8 ≠ 0xFF#8)
      | .lfllDeadbandQ14 => (0x042#12, 0x0000FFFF#32, True)
      | .lfllSlewQ15 => (0x043#12, 0x0000FFFF#32, True)
      | .deemphCfg => (0x048#12, 0x00000003#32, (d.extractLsb' 0 2).toNat ≤ 2)
      | .deemphTauNfmNs => (0x049#12, 0xFFFFFFFF#32, True)
      | .chlpfCfg => (0x050#12, 0x00000707#32, (d.extractLsb' 0 3).toNat ≤ 5 ∧ (d.extractLsb' 8 3).toNat ≤ 6)
      | .chlpfFc0 => (0x051#12, 0xFFFFFFFF#32, True)
      | .chlpfFc1 => (0x052#12, 0xFFFFFFFF#32, True)
      | .chlpfFc2 => (0x053#12, 0xFFFFFFFF#32, True)
      | .chlpfFc3 => (0x054#12, 0xFFFFFFFF#32, True)
      | .chlpfFc4 => (0x055#12, 0xFFFFFFFF#32, True)
      | .chlpfFc5 => (0x056#12, 0xFFFFFFFF#32, True)
      | .chlpfTw0 => (0x058#12, 0xFFFFFFFF#32, True)
      | .chlpfTw1 => (0x059#12, 0xFFFFFFFF#32, True)
      | .chlpfTw2 => (0x05A#12, 0xFFFFFFFF#32, True)
      | .chlpfTw3 => (0x05B#12, 0xFFFFFFFF#32, True)
      | .chlpfTw4 => (0x05C#12, 0xFFFFFFFF#32, True)
      | .chlpfTw5 => (0x05D#12, 0xFFFFFFFF#32, True)
      | .alpfFc => (0x060#12, 0xFFFFFFFF#32, True)
      | .rsL => (0x061#12, 0x0000FFFF#32, 1 ≤ (d.extractLsb' 0 16).toNat ∧ (d.extractLsb' 0 16).toNat ≤ 1024)
      | .rsM => (0x062#12, 0x0000FFFF#32, 1 ≤ (d.extractLsb' 0 16).toNat ∧ (d.extractLsb' 0 16).toNat ≤ 1024)
      | .rsK => (0x063#12, 0x0000001F#32, 1 ≤ (d.extractLsb' 0 5).toNat ∧ (d.extractLsb' 0 5).toNat ≤ 16)
      | .symScale => (0x068#12, 0xFFFFFFFF#32, d.extractLsb' 23 8 ≠ 0xFF#8)
      | .slMsize => (0x070#12, 0x000007FF#32, 1 ≤ (d.extractLsb' 0 11).toNat ∧ (d.extractLsb' 0 11).toNat ≤ 1024)
      | .slSsize => (0x071#12, 0x00000FFF#32, 1 ≤ (d.extractLsb' 0 12).toNat ∧ (d.extractLsb' 0 12).toNat ≤ 2048)
      | .slBufSel => (0x07A#12, 0x000103FF#32, True)
      | .syncPol => (0x080#12, 0x000007FF#32, True)
      | .syncProtoEn => (0x081#12, 0x000007FF#32, True)
      | .syncTol => (0x082#12, 0x000000FF#32, True)
      | .permThr => (0x085#12, 0x000000FF#32, True)
    r.addr = row.1 ∧ r.mask = row.2.1 ∧ (r.legal d = true ↔ row.2.2))

/-- R71, R72, R221, R222, R552, R553: a `CSRW` or `CSRR` of an address that R72 does not list ends with BAD_CSR, with no data
word; a `CSRW` of a read-only CSR ends with RO_CSR whatever the value, of an illegal value with BAD_VALUE. -/
def Obligations.CsrAccessRefusals : Prop :=
  (∀ (s : State) (a : BitVec 12) (d : Word),
    a ∉
        [0x000#12, 0x001#12, 0x002#12, 0x003#12, 0x004#12, 0x005#12, 0x007#12, 0x008#12, 0x010#12, 0x011#12,
         0x012#12, 0x013#12, 0x014#12, 0x015#12, 0x018#12, 0x019#12, 0x01A#12, 0x01B#12, 0x020#12, 0x021#12,
         0x022#12, 0x023#12, 0x028#12, 0x029#12, 0x02A#12, 0x02B#12, 0x02C#12, 0x02D#12, 0x030#12, 0x031#12] ++
        [0x038#12, 0x039#12, 0x03A#12, 0x03B#12, 0x03C#12, 0x03D#12, 0x03E#12, 0x03F#12, 0x040#12, 0x041#12,
         0x042#12, 0x043#12, 0x044#12, 0x048#12, 0x049#12, 0x050#12, 0x051#12, 0x052#12, 0x053#12, 0x054#12,
         0x055#12, 0x056#12, 0x058#12, 0x059#12, 0x05A#12, 0x05B#12, 0x05C#12, 0x05D#12, 0x060#12, 0x061#12] ++
        [0x062#12, 0x063#12, 0x068#12, 0x070#12, 0x071#12, 0x072#12, 0x073#12, 0x074#12, 0x075#12, 0x076#12,
         0x077#12, 0x078#12, 0x079#12, 0x07A#12, 0x07B#12, 0x080#12, 0x081#12, 0x082#12, 0x083#12, 0x084#12,
         0x085#12, 0x086#12, 0x088#12, 0x089#12, 0x08A#12, 0x0A0#12, 0x0A1#12] →
    exec (.csrw a d) s = .next (s.failed 2 0x03#8) ∧ exec (.csrr a) s = .next (s.failed 1 0x03#8)) ∧
  (∀ (s : State) (a : BitVec 12) (d : Word),
    a ∈
      [0x000#12, 0x015#12, 0x01A#12, 0x01B#12, 0x022#12, 0x023#12, 0x02B#12, 0x02C#12, 0x02D#12, 0x030#12, 0x031#12,
       0x03E#12, 0x03F#12, 0x044#12, 0x072#12, 0x073#12, 0x074#12, 0x075#12, 0x076#12, 0x077#12, 0x078#12, 0x079#12,
       0x07B#12, 0x083#12, 0x084#12, 0x086#12, 0x088#12, 0x089#12, 0x08A#12, 0x0A0#12, 0x0A1#12] →
    exec (.csrw a d) s = .next (s.failed 2 0x04#8)) ∧
  (∀ (s : State) (r : Rw) (d : Word), r.legal d = false → exec (.csrw r.addr d) s = .next (s.failed 2 0x05#8))

/-- R74: the fields of STATUS, and its write: bit 0 set clears ERR, every other bit is ignored, and a write is never
refused. -/
def Obligations.StatusRegister : Prop :=
  (∀ s : State,
    s.status.getLsbD 0 = s.err ∧ s.status.getLsbD 1 = s.rr ∧ s.status.getLsbD 2 = decide (s.sync.type ≠ -1) ∧
      s.status.getLsbD 3 = s.permLock ∧ s.status.getLsbD 4 = s.cos.init ∧ s.status.getLsbD 5 = s.dmr.init ∧
      s.status.getLsbD 6 = s.eq.wl ∧ s.status.getLsbD 7 = false ∧ s.status.extractLsb' 8 8 = s.lastErr ∧
      s.status.extractLsb' 16 3 = s.lastWs ∧ s.status.extractLsb' 19 13 = 0#13) ∧
  (∀ (s : State) (d : Word),
    exec (.csrw 0x001#12 d) s =
      .next (State.ended { s with err := if d.getLsbD 0 then false else s.err } 2 [0x00000000#32]))

/-- R152, R222, R73, R85 to R125: a `CSRR` answers 0 and then the value, and changes nothing else: the stored word of a
read-write CSR, STATUS, and of each read-only CSR the state element its rule names. A second read gives the same word. Where
a REAL element is a NaN the word is some NaN pattern, the same at every read (the model's choice,
notes/assumptions/10.md). -/
def Obligations.CsrrReads : Prop :=
  (∀ (s : State) (r : Rw), exec (.csrr r.addr) s = .next (s.ended 1 [0x00000000#32, s.csr.get r])) ∧
  (∀ s : State, exec (.csrr 0x001#12) s = .next (s.ended 1 [0x00000000#32, s.status])) ∧
  (∀ s : State, ∀ e ∈
      ([(0x000#12, 0x44534E05#32), (0x079#12, BitVec.ofNat 32 (s.sl.midx % 1024)), (0x083#12, BitVec.ofInt 32 s.sync.type),
        (0x084#12, BitVec.ofInt 32 s.sync.last),
        (0x086#12, 0#23 ++ BitVec.ofBool s.permLock ++ s.perm.p3 ++ s.perm.p2 ++ s.perm.p1 ++ s.perm.p0),
        (0x08A#12, BitVec.ofNat 32 (s.dmr.best % 8 + if s.dmr.bvalid = true then 256 else 0)), (0x0A0#12, s.symcount),
        (0x0A1#12, s.sync.pos)] : List (BitVec 12 × Word)),
    exec (.csrr e.1) s = .next (s.ended 1 [0x00000000#32, e.2])) ∧
  (∀ s : State,
    let i := (s.csr.get .eqTapSel).toNat % 32
    let bank := (s.csr.get .eqTapSel).toNat / 256 % 4
    let tap :=
      if bank = 0 ∧ i ≤ 30 then s.eq.w.getD i C32.zero
      else if bank = 1 ∧ i ≤ 30 then s.eq.v.getD i C32.zero
      else if bank = 2 ∧ 1 ≤ i ∧ i ≤ 4 then s.eq.b.getD (i - 1) C32.zero
      else C32.zero
    let j := (s.csr.get .slBufSel).toNat % 1024
    let buf :=
      if (s.csr.get .slBufSel).getLsbD 16 = true then s.sl.minbuf.getD j F32.zero else s.sl.maxbuf.getD j F32.zero
    ∀ e ∈
      ([(0x015#12, s.agc.g), (0x01A#12, s.iqb.a.re), (0x01B#12, s.iqb.a.im), (0x022#12, s.ted.mu),
        (0x023#12, s.ted.omega), (0x02B#12, s.cos.phase), (0x02C#12, s.cos.freq), (0x02D#12, s.cos.error),
        (0x030#12, s.be.phase), (0x031#12, s.be.freq), (0x03E#12, tap.re), (0x03F#12, tap.im), (0x044#12, s.lf.freq),
        (0x072#12, s.sl.max), (0x073#12, s.sl.min), (0x074#12, s.sl.center), (0x075#12, s.sl.umid),
        (0x076#12, s.sl.lmid), (0x077#12, s.sl.maxref), (0x078#12, s.sl.minref), (0x07B#12, buf),
        (0x088#12, s.dmr.balance), (0x089#12, s.dmr.gain)] : List (BitVec 12 × F32)),
      ∃ w : Word, (if e.2.isNan = true then (F32.mk w).isNan = true else w = e.2.bits) ∧
        exec (.csrr e.1) s = .next (s.ended 1 [0x00000000#32, w]) ∧
        exec (.csrr e.1) (s.ended 1 [0x00000000#32, w]) =
          .next ((s.ended 1 [0x00000000#32, w]).ended 1 [0x00000000#32, w]))

/-- R71: a write of a NaN or infinity pattern (exponent field all ones) to a REAL CSR is refused with BAD_VALUE. -/
def Obligations.RealCsrRefusesNonFinite : Prop :=
  ∀ (s : State) (r : Rw) (d : Word),
    r ∈ [Rw.agcTarget, .agcMin, .agcAttack, .agcRelease, .agcEnv, .iqbMu, .iqbThr, .costasAlpha, .costasBeta,
      .costasMaxf, .lfllKp, .lfllKi, .symScale] →
    d.extractLsb' 23 8 = 0xFF#8 →
    exec (.csrw r.addr d) s = .next (s.failed 2 0x05#8)

/-! ## Reset -/

/-- R226, R590: `RESET` gives every CSR and state element its power-on value, keeps the ports but for its own command word
and response, and keeps the model's counter of free values (notes/assumptions/12.md). -/
def Obligations.ResetCommand : Prop :=
  ∀ s : State,
    exec .reset s =
      .next
        { State.reset with
          ports := { s.ports with cmd := s.ports.cmd.drop 1, resp := s.ports.resp ++ [0x00000000#32] }
          free := s.free }

/-- R72, R590: after power-on a `CSRR` of every register answers the value of the reset column; the latched copies equal the
registers; the ports are empty. -/
def Obligations.ResetValues : Prop :=
  (∀ e ∈
      ([(0x000#12, 0x44534E05#32), (0x001#12, 0#32), (0x002#12, 1#32), (0x003#12, 2#32), (0x004#12, 16384#32),
        (0x005#12, 0#32), (0x007#12, 0#32), (0x008#12, 12#32), (0x010#12, 0x3E99999A#32), (0x011#12, 0x3D75C28F#32),
        (0x012#12, 0x3D800000#32), (0x013#12, 0x3B800000#32), (0x014#12, 0x3C800000#32), (0x015#12, 0x3F800000#32),
        (0x018#12, 0x3A800000#32), (0x019#12, 0x3C23D70A#32), (0x01A#12, 0#32), (0x01B#12, 0#32), (0x020#12, 5#32),
        (0x021#12, 16384#32), (0x022#12, 0#32), (0x023#12, 0x40A00000#32), (0x028#12, 0x3D23D70A#32),
        (0x029#12, 0x39D1B717#32), (0x02A#12, 0x3E99999A#32), (0x02B#12, 0#32), (0x02C#12, 0#32), (0x02D#12, 0#32),
        (0x030#12, 0#32), (0x031#12, 0#32)] ++
       [(0x038#12, 0x00080001#32), (0x039#12, 256#32), (0x03A#12, 1#32), (0x03B#12, 1200#32), (0x03C#12, 3277#32),
        (0x03D#12, 0#32), (0x03E#12, 0x3F800000#32), (0x03F#12, 0#32), (0x040#12, 0#32), (0x041#12, 0#32),
        (0x042#12, 0#32), (0x043#12, 0#32), (0x044#12, 0#32), (0x048#12, 0#32), (0x049#12, 0#32), (0x050#12, 0#32),
        (0x051#12, 0#32), (0x052#12, 0#32), (0x053#12, 0#32), (0x054#12, 0#32), (0x055#12, 0#32), (0x056#12, 0#32),
        (0x058#12, 0#32), (0x059#12, 0#32), (0x05A#12, 0#32), (0x05B#12, 0#32), (0x05C#12, 0#32), (0x05D#12, 0#32),
        (0x060#12, 0#32), (0x061#12, 1#32)] ++
       [(0x062#12, 1#32), (0x063#12, 16#32), (0x068#12, 0x3F800000#32), (0x070#12, 15#32), (0x071#12, 36#32),
        (0x072#12, 0#32), (0x073#12, 0#32), (0x074#12, 0#32), (0x075#12, 0#32), (0x076#12, 0#32), (0x077#12, 0#32),
        (0x078#12, 0#32), (0x079#12, 0#32), (0x07A#12, 0#32), (0x07B#12, 0#32), (0x080#12, 0#32), (0x081#12, 529#32),
        (0x082#12, 0#32), (0x083#12, 0xFFFFFFFF#32), (0x084#12, 0xFFFFFFFF#32), (0x085#12, 4#32), (0x086#12, 228#32),
        (0x088#12, 0#32), (0x089#12, 0x3F800000#32), (0x08A#12, 0#32), (0x0A0#12, 0#32), (0x0A1#12, 0#32)] :
        List (BitVec 12 × Word)),
    exec (.csrr e.1) State.reset = .next (State.reset.ended 1 [0x00000000#32, e.2])) ∧
  (∀ r : Rw, State.reset.cfg.get r = State.reset.csr.get r) ∧
  State.reset.ports = ⟨[], [], [], [], [], []⟩

/-- R225, whole: `RETUNE_RESET` records the request, so that STATUS.RR reads 1, answers 0x00000000 and changes nothing else;
the loops are not touched yet, and a second request before a `PROC` adds nothing to the first. As a step, a word with OP
0x20 does so, and raises BAD_FORMAT where its bits 23:0 are not 0. A `RESET` clears the request. -/
def Obligations.RetuneResetRequest : Prop :=
  (∀ s : State, exec .retuneReset s = .next (State.ended { s with rr := true } 1 [0x00000000#32]) ∧
    (State.ended { s with rr := true } 1 [0x00000000#32]).status.getLsbD 1 = true) ∧
  (∀ (s : State) (w : Word) (rest : List Word), s.ports.cmd = w :: rest → w.extractLsb' 24 8 = 0x20#8 →
    step s =
      if w.extractLsb' 0 24 = 0#24 then
        .next { s with rr := true, ports := { s.ports with cmd := rest, resp := s.ports.resp ++ [0x00000000#32] } }
      else
        .next
          { s with err := true, lastErr := 0x02#8
                   ports := { s.ports with cmd := rest, resp := s.ports.resp ++ [0x02000000#32] } }) ∧
  ∀ s : State, ∃ t, exec .reset s = .next t ∧ t.rr = false

/-! ## PROC -/

/-- R263, R404, R406: the configurations that `PROC` refuses, listed as the rule lists them; among them a channel LPF of more
than 1023 taps, `⌈A·fs/(22·Δf)⌉` made odd, A being the attenuation of the window (rates compared exactly, on integers:
notes/assumptions/8.md): each ends with BAD_CONFIG, takes no sample and leaves a retune request pending; any other
configuration passes the check. -/
def Obligations.ProcRefusesBadConfig : Prop :=
  ∀ s : State,
    let fs := (s.csr.get .fsIn).toNat
    let window := (s.csr.get .chlpfCfg).toNat / 256 % 8
    let profile := (s.csr.get .chlpfCfg).toNat % 8
    let fc :=
      (s.csr.get ([Rw.chlpfFc0, .chlpfFc1, .chlpfFc2, .chlpfFc3, .chlpfFc4].getD profile .chlpfFc5)).toNat
    let tw :=
      (s.csr.get ([Rw.chlpfTw0, .chlpfTw1, .chlpfTw2, .chlpfTw3, .chlpfTw4].getD profile .chlpfTw5)).toNat
    let h := if s.csr.stageOn .hb = true then (s.csr.get .hbStages).toNat % 8 else 0
    let den := 22 * tw * 2 ^ h
    let up := ([53, 44, 74, 92, 27, 93, 21].getD window 0 * fs + den - 1) / den
    let ntaps := if up % 2 = 0 then up + 1 else up
    let fm := decide ((s.csr.get .mode).toNat % 8 ≠ 2)
    let bad : Prop :=
      (fm = true ∧ s.csr.stageOn .deemph = true ∧ fs = 0) ∨
      (s.csr.stageOn .chlpf = true ∧
        (fs = 0 ∨ fc = 0 ∨ tw = 0 ∨ fs ≤ fc * 2 ^ (h + 1) ∨ 1023 < ntaps)) ∨
      (fm = true ∧ s.csr.stageOn .alpf = true ∧ (fs = 0 ∨ (s.csr.get .alpfFc).toNat = 0))
    (bad → exec .proc s = .next (s.failed 1 0x06#8)) ∧ (¬ bad → s.csr.configOk Params.default = true)

/-- R223, R261, R262: with an accepted configuration and BLOCK_LEN samples present, `PROC` completes: it takes exactly
those samples and its command word, applies a pending retune request, latches every CSR, writes no CSR, leaves the error
record alone and answers with status OK. -/
def Obligations.ProcCompletes : Prop :=
  ∀ s : State, s.csr.configOk Params.default = true → (s.csr.get .blockLen).toNat % 2 ^ 19 ≤ s.ports.iqIn.length →
    ∃ (t : State) (p : BitVec 24), exec .proc s = .next t ∧
      t.ports.iqIn = s.ports.iqIn.drop ((s.csr.get .blockLen).toNat % 2 ^ 19) ∧
      t.ports.cmd = s.ports.cmd.drop 1 ∧ t.ports.resp = s.ports.resp ++ [0x00#8 ++ p] ∧
      t.rr = false ∧ t.csr = s.csr ∧ t.cfg = s.csr ∧ t.err = s.err ∧ t.lastErr = s.lastErr ∧ t.work = Work.idle

/-- R192, R144, R458: the payload of a completed `PROC` is the number of symbols sliced modulo 2^24; that many entries are
appended to `SYM_OUT`, numbered on from the old `symcount`, and `symcount` advances by that number modulo 2^32. -/
def Obligations.ProcCountsSymbols : Prop :=
  ∀ s : State, s.csr.configOk Params.default = true → (s.csr.get .blockLen).toNat % 2 ^ 19 ≤ s.ports.iqIn.length →
    ∃ (t : State) (es : List (SymEntry F32)), exec .proc s = .next t ∧
      t.ports.symOut = s.ports.symOut ++ es ∧
      t.symcount = s.symcount + BitVec.ofNat 32 es.length ∧
      t.ports.resp = s.ports.resp ++ [0x00#8 ++ BitVec.ofNat 24 es.length] ∧
      ∀ (k : Nat) (e : SymEntry F32), es[k]? = some e → e.idx = s.symcount + BitVec.ofNat 32 k

/-- R260, R261, R440: what `PROC` does to the stream it takes is to run the stage instructions of the active path in the
path's order; on the FM family the stream turns real after the discriminator and leaves for the audio port after the
resampler. That a stage is an instruction over the block's stream is the model's reading, notes/assumptions/2.md. -/
def Obligations.ProcRunsStageInstructions : Prop :=
  ∀ s : State,
    (s.cfg.cqpsk = true → runInstrs cqpskOrder s = .next (runPath Params.default s)) ∧
    (s.cfg.cqpsk = false →
      ∃ a b, runInstrs fmComplexOrder s = .next a ∧ runInstrs fmRealOrder (realStream .binary32 a) = .next b ∧
        runInstrs fmSymbolOrder (audioOutput Params.default b) = .next (runPath Params.default s)) ∧
    (s.csr.configOk Params.default = true → s.csr.blockLength ≤ s.ports.iqIn.length →
      exec .proc s =
        .next
          (State.ended
            { runPath Params.default (popSamples .binary32 (prepare Params.default s) s.csr.blockLength) with work := Work.idle } 1
            [0x00#8 ++
              BitVec.ofNat 24
                (runPath Params.default (popSamples .binary32 (prepare Params.default s) s.csr.blockLength)).work.nsym]))

/-- R223, R261, R592, R593: a `PROC` with every stage off, in any mode, takes its samples, pushes nothing, reports 0 symbols
and latches the CSRs. With a retune request pending it also sets every element of the first table of R592 to its reset value
and clears the request. Every other element is kept, whether or not a request was pending; the model's counter of free values
advances by 1 (notes/assumptions/10.md). The length the equalizer is initialized with, and the lengths of the cleared
histories, are the model's reading, notes/assumptions/13.md; MODE 0, notes/assumptions/18.md. -/
def Obligations.ProcWithStagesOffAppliesRetune : Prop :=
  ∀ s : State, s.csr.get .stageEn &&& 0x007FFFFE#32 = 0#32 →
    (s.csr.get .blockLen).toNat % 2 ^ 19 ≤ s.ports.iqIn.length →
    let sps := (s.csr.get .tedSps).toNat % 256
    let base : State :=
      { s with
        cfg := s.csr
        work := Work.idle
        free := s.free + 1
        ports :=
          { s.ports with
            iqIn := s.ports.iqIn.drop ((s.csr.get .blockLen).toNat % 2 ^ 19)
            cmd := s.ports.cmd.drop 1
            resp := s.ports.resp ++ [0x00000000#32] } }
    (s.rr = false → exec .proc s = .next base) ∧
    (s.rr = true →
      exec .proc s =
        .next
          { base with
            rr := false
            hb := List.replicate 4 ⟨List.replicate 6 C32.zero, false⟩
            be :=
              { s.be with
                phase := F32.zero, freq := F32.zero, h := List.replicate s.be.h.length C32.zero }
            cos := ⟨F32.zero, F32.zero, F32.zero, false⟩
            ted :=
              ⟨F32.ofNat sps, 2 * sps, F32.zero, F32.ofNat sps, List.replicate (2 * sps + 2) C32.zero, C32.zero⟩
            diffPrev := C32.zero
            eq := Equalizer.initFor .binary32 s.cfg.ffeLen
            lf := ⟨F32.zero, F32.zero, F32.zero, C32.zero⟩
            discPrev := C32.zero
            de := { s.de with y := F32.zero }
            al := { s.al with y := F32.zero }
            ch := { s.ch with h := List.replicate s.ch.h.length C32.zero }
            rs := { s.rs with h := List.replicate s.rs.h.length C32.zero, acc := 0 }
            sync := { s.sync with sr := List.replicate 64 0#2, srn := 0 }
            perm := ⟨0#2, 1#2, 2#2, 3#2⟩
            permLock := false })

/-- R440, R146, R142, R223: what `PROC` pushes to `AUDIO_OUT`. In MODE 0 with some stage on: `sat16(a·32768)` of every real
sample a of the stream that leaves the stages up to 16, in order; where none of the stages 1 to 6 and 11 to 16 is on, these
are the I of the samples, unchanged. The port keeps the newest 65535 entries. In modes 1 to 3 nothing is pushed, whatever
stages are on, and in MODE 0 nothing with every stage off (notes/assumptions/18.md). Stages as instructions: the model's
reading, notes/assumptions/2.md. -/
def Obligations.FmAudioPassesSample : Prop :=
  ∀ s : State, s.csr.configOk Params.default = true → (s.csr.get .blockLen).toNat % 2 ^ 19 ≤ s.ports.iqIn.length →
    s.ports.audioOut.length ≤ 65535 →
    let n := (s.csr.get .blockLen).toNat % 2 ^ 19
    let newest := fun q : List (BitVec 16) => q.drop (q.length - 65535)
    ∃ t, exec .proc s = .next t ∧
      (((s.csr.get .mode).toNat % 8 ≠ 0 ∨ s.csr.get .stageEn &&& 0x007FFFFE#32 = 0#32) →
        t.ports.audioOut = s.ports.audioOut) ∧
      ((s.csr.get .mode).toNat % 8 = 0 → s.csr.get .stageEn &&& 0x007FFFFE#32 ≠ 0#32 →
        s.csr.get .stageEn &&& 0x0001F87E#32 = 0#32 →
        t.ports.audioOut = newest (s.ports.audioOut ++ (s.ports.iqIn.take n).map (fun x => x.i))) ∧
      ((s.csr.get .mode).toNat % 8 = 0 → s.csr.get .stageEn &&& 0x007FFFFE#32 ≠ 0#32 →
        ∃ a b, runInstrs fmComplexOrder (popSamples .binary32 (prepare Params.default s) n) = .next a ∧
          runInstrs fmRealOrder (a.withStream (a.work.xs.map (fun z => ⟨z.re, F32.zero⟩))) = .next b ∧
          t.ports.audioOut =
            newest (s.ports.audioOut ++ b.work.xs.map (fun z => F32.sat16 (F32.mul z.re (F32.ofNat 32768)))))

/-- R264, R66, R310, R311, R400, R404 to R406, R420, R430, R360: the eight designed sets, with every tap and coefficient
written out: band-edge filters and loop gains, TED, equalizer, deemphasis, channel LPF with its windows, audio LPF,
resampler. A `PROC` that completes leaves for every set whose stage is enabled on the active path the key of the CSR values
now. Where the key changed, the set is designed anew and its history cleared before the stages run (in `prepare s`, the state
the stages start from); where it did not, and for a set whose stage is not enabled, key, set and history are those that a
pending retune reset leaves. The stages change no designed coefficient. The model's own, by entry of notes/assumptions: the
REAL constants π and 2π, 5.md; the order of evaluation, 7.md; the exact tap count, the one rounding of `fs_mid` and the NFM
time constant as rnd(N) times rnd(1e-9), 8.md; the parameters at their defaults, 11.md; the keys, 14.md; a frequency
or an `omega` that a kept key leaves, 27.md. -/
def Obligations.ProcDesignsEnabledSets : Prop :=
  ∀ s : State, s.csr.configOk Params.default = true → (s.csr.get .blockLen).toNat % 2 ^ 19 ≤ s.ports.iqIn.length →
    let c := s.csr
    let r := applyRetune Params.default s
    let p := prepare Params.default s
    let sps := (c.get .tedSps).toNat % 256
    let h := if c.stageOn .hb = true then (c.get .hbStages).toNat % 8 else 0
    let fs := F32.ofRat (c.get .fsIn).toNat (2 ^ h)
    let sinc := fun x : F32 =>
      if x.isZero = true then F32.one else F32.div (F32.sin (F32.mul F32.pi x)) (F32.mul F32.pi x)
    let rho := F32.ofRat 2 10
    let half := F32.ofRat 1 2
    let bb := fun n : Nat =>
      let kb := F32.add (F32.ofInt (-2)) (F32.div (F32.ofNat (2 * n)) (F32.ofNat sps))
      F32.add (sinc (F32.sub (F32.mul rho kb) half)) (sinc (F32.add (F32.mul rho kb) half))
    let bbSum := F32.sum ((List.range (2 * sps + 1)).map bb)
    let edge := fun n : Nat =>
      F32.mul (F32.mul F32.twoPi (F32.add F32.one rho))
        (F32.div (F32.ofInt ((n : Int) - sps)) (F32.ofNat (2 * sps)))
    let bandEdge := fun lower : Bool =>
      (List.range (2 * sps + 1)).map (fun n =>
        let a := if lower = true then F32.neg (edge n) else edge n
        (⟨F32.mul (F32.div (bb n) bbSum) (F32.cos a), F32.mul (F32.div (bb n) bbSum) (F32.sin a)⟩ : C32))
    let window := (c.get .chlpfCfg).toNat / 256 % 8
    let profile := (c.get .chlpfCfg).toNat % 8
    let fc := (c.get ([Rw.chlpfFc0, .chlpfFc1, .chlpfFc2, .chlpfFc3, .chlpfFc4].getD profile .chlpfFc5)).toNat
    let tw := (c.get ([Rw.chlpfTw0, .chlpfTw1, .chlpfTw2, .chlpfTw3, .chlpfTw4].getD profile .chlpfTw5)).toNat
    let tapsDen := 22 * tw * 2 ^ h
    let tapsUp := ([53, 44, 74, 92, 27, 93, 21].getD window 0 * (c.get .fsIn).toNat + tapsDen - 1) / tapsDen
    let ntaps := if tapsUp % 2 = 0 then tapsUp + 1 else tapsUp
    let win := fun wnd n mw : Nat =>
      let x := F32.div (F32.mul F32.twoPi (F32.ofNat n)) (F32.ofNat mw)
      let term := fun num k : Nat => F32.mul (F32.ofRat num 100000) (F32.cos (F32.mul (F32.ofNat k) x))
      let first := fun num : Nat => F32.mul (F32.ofRat num 100000) (F32.cos x)
      if mw = 0 then F32.one
      else if wnd = 0 then F32.sub (F32.ofRat 54000 100000) (first 46000)
      else if wnd = 1 then F32.sub (F32.ofRat 50000 100000) (first 50000)
      else if wnd = 2 then F32.add (F32.sub (F32.ofRat 42000 100000) (first 50000)) (term 8000 2)
      else if wnd = 3 then
        F32.sub (F32.add (F32.sub (F32.ofRat 35875 100000) (first 48829)) (term 14128 2)) (term 1168 3)
      else if wnd = 4 then
        F32.sub F32.one (F32.abs (F32.sub (F32.div (F32.ofNat (2 * n)) (F32.ofNat mw)) F32.one))
      else if wnd = 5 then
        F32.add
          (F32.sub (F32.add (F32.sub (F32.ofRat 100000 100000) (first 193000)) (term 129000 2)) (term 38800 3))
          (term 2800 4)
      else F32.one
    let w0 := F32.div (F32.mul F32.twoPi (F32.ofNat fc)) fs
    let chProto := fun n : Nat =>
      let k : Int := (n : Int) - ((ntaps - 1) / 2 : Nat)
      F32.mul
        (if k = 0 then F32.div w0 F32.pi
        else F32.div (F32.sin (F32.mul (F32.ofInt k) w0)) (F32.mul (F32.ofInt k) F32.pi))
        (win window n (ntaps - 1))
    let chSum := F32.sum ((List.range ntaps).map chProto)
    let rsG := Nat.gcd ((c.get .rsL).toNat % 65536) ((c.get .rsM).toNat % 65536)
    let rsL := (c.get .rsL).toNat % 65536 / rsG
    let rsM := (c.get .rsM).toNat % 65536 / rsG
    let rsK := (c.get .rsK).toNat % 32
    let fc2 := F32.mul (F32.ofNat 2) (F32.div F32.one (F32.ofNat (2 * max rsL rsM)))
    let rsProto := fun n : Nat =>
      F32.mul
        (F32.mul fc2 (sinc (F32.mul fc2 (F32.ofRat (2 * (n : Int) - ((rsK * rsL : Nat) - 1 : Int)) 2))))
        (if rsK * rsL = 1 then F32.one else win 0 n (rsK * rsL - 1))
    let rsSum := F32.sum ((List.range (rsK * rsL)).map rsProto)
    let keyHb := some [c.get .hbStages]
    let keySps := some [c.get .tedSps]
    let keyEq :=
      some [BitVec.ofNat 32 ((c.get .eqCfg).toNat % 32), BitVec.ofNat 32 ((c.get .eqCfg).toNat / 256 % 8)]
    let keyDe := some [c.get .deemphCfg, c.get .deemphTauNfmNs, c.get .fsIn, BitVec.ofNat 32 h]
    let keyCh :=
      some [c.get .chlpfCfg, BitVec.ofNat 32 fc, BitVec.ofNat 32 tw, c.get .fsIn, BitVec.ofNat 32 h]
    let keyAl := some [c.get .alpfFc, c.get .fsIn, BitVec.ofNat 32 h]
    let keyRs := some [c.get .rsL, c.get .rsM, c.get .rsK]
    ∃ t, exec .proc s = .next t ∧ t.key = p.key ∧
      (t.be.up, t.be.lo, t.be.alpha, t.be.beta, t.be.fmax) = (p.be.up, p.be.lo, p.be.alpha, p.be.beta, p.be.fmax) ∧
      (t.ted.omega, t.ted.twiceSps) = (p.ted.omega, p.ted.twiceSps) ∧
      (t.de.a, t.al.a, t.ch.taps, t.rs.taps) = (p.de.a, p.al.a, p.ch.taps, p.rs.taps) ∧
      (if c.stageOn .hb = true then
        p.key.hb = keyHb ∧
          p.hb = if s.key.hb = keyHb then r.hb else List.replicate 4 ⟨List.replicate 6 C32.zero, false⟩
      else p.key.hb = s.key.hb ∧ p.hb = r.hb) ∧
      (if c.stageOn .befll = true ∧ c.cqpsk = true then
        p.key.be = keySps ∧
          p.be =
            if s.key.be = keySps then r.be
            else
              let w := F32.div F32.twoPi (F32.ofNat (sps * 250))
              let z := F32.div (F32.sqrt (F32.ofNat 2)) (F32.ofNat 2)
              let den := F32.add (F32.add F32.one (F32.mul (F32.mul (F32.ofNat 2) z) w)) (F32.mul w w)
              { r.be with
                h := List.replicate (2 * sps) C32.zero
                up := bandEdge false
                lo := bandEdge true
                alpha := F32.div (F32.mul (F32.mul (F32.ofNat 4) z) w) den
                beta := F32.div (F32.mul (F32.ofNat 4) (F32.mul w w)) den
                fmax := F32.div (F32.mul F32.twoPi (F32.ofNat 2)) (F32.ofNat sps) }
      else p.key.be = s.key.be ∧ p.be = r.be) ∧
      (if c.stageOn .ted = true ∨ (c.cqpsk = true ∧ c.stageOn .costas = true) then
        p.key.ted = keySps ∧
          p.ted =
            if s.key.ted = keySps then r.ted
            else
              ⟨F32.ofNat sps, 2 * sps, F32.zero, F32.ofNat sps, List.replicate (2 * sps + 2) C32.zero, C32.zero⟩
      else p.key.ted = s.key.ted ∧ p.ted = r.ted) ∧
      (if c.stageOn .eq = true ∧ c.cqpsk = true then
        p.key.eq = keyEq ∧
          p.eq =
            if s.key.eq = keyEq then r.eq
            else
              ⟨(List.replicate 31 C32.zero).set (((c.get .eqCfg).toNat % 32 - 1) / 2) ⟨F32.one, F32.zero⟩,
                List.replicate 31 C32.zero, List.replicate 4 C32.zero, List.replicate 31 C32.zero,
                List.replicate 4 C32.zero, C32.zero, F32.zero, 0, 0, false, false⟩
      else p.key.eq = s.key.eq ∧ p.eq = r.eq) ∧
      (if c.stageOn .deemph = true ∧ c.cqpsk = false then
        p.key.de = keyDe ∧
          p.de =
            if s.key.de = keyDe then r.de
            else
              let tau :=
                if (c.get .deemphCfg).toNat % 4 = 1 then F32.ofRat 50 1000000
                else if (c.get .deemphCfg).toNat % 4 = 2 then F32.ofRat 75 1000000
                else F32.mul (F32.ofNat (c.get .deemphTauNfmNs).toNat) (F32.ofRat 1 1000000000)
              ⟨F32.zero,
                if tau.isZero = true then F32.one
                else F32.sub F32.one (F32.exp (F32.div (F32.neg F32.one) (F32.mul tau fs)))⟩
      else p.key.de = s.key.de ∧ p.de = r.de) ∧
      (if c.stageOn .chlpf = true then
        p.key.ch = keyCh ∧
          p.ch =
            if s.key.ch = keyCh then r.ch
            else
              ⟨(List.range ntaps).map (fun n => F32.div (chProto n) chSum), List.replicate (ntaps - 1) C32.zero⟩
      else p.key.ch = s.key.ch ∧ p.ch = r.ch) ∧
      (if c.stageOn .alpf = true ∧ c.cqpsk = false then
        p.key.al = keyAl ∧
          p.al =
            if s.key.al = keyAl then r.al
            else
              ⟨F32.zero,
                F32.sub F32.one
                  (F32.exp (F32.div (F32.mul (F32.neg F32.twoPi) (F32.ofNat (c.get .alpfFc).toNat)) fs))⟩
      else p.key.al = s.key.al ∧ p.al = r.al) ∧
      (if c.stageOn .resamp = true then
        p.key.rs = keyRs ∧
          p.rs =
            if s.key.rs = keyRs then r.rs
            else
              ⟨if rsL = rsM then []
                else
                  (List.range rsL).flatMap (fun p =>
                    (List.range rsK).map (fun k =>
                      F32.div (F32.mul (rsProto (k * rsL + p)) (F32.ofNat rsL)) rsSum)),
                List.replicate rsK C32.zero, 0⟩
      else p.key.rs = s.key.rs ∧ p.rs = r.rs)

/-! ## Warm-start and resample-on-sync commands -/

/-- R227, R470, R471, R455: `WSTART n`. Above 2048 it is refused with BAD_VALUE. Else it latches the CSRs and answers its
result code r, which it records: DISABLED with WS off, NO_HISTORY for n = 0 or too few symbols; DEGENERATE where one of the
last n symbols' classes (above 0, below 0) is empty or the class means mp and mn are less than 1.0 apart; else OK. On any
result but OK the slicer is unchanged; on OK `max` is mp, `min` is mn, `center` their midpoint, the first MSIZE buffer entries
are pre-filled, and the thresholds follow R455. Nothing else changes but the model's counter of free values. The order of
evaluation is the model's reading, notes/assumptions/7.md; spans with a NaN, 10.md. -/
def Obligations.WstartResult : Prop :=
  ∀ (s : State) (n : Nat),
    (2048 < n → exec (.wstart n) s = .next (s.failed 1 0x05#8)) ∧
    (n ≤ 2048 →
      let win := (List.range n).map (fun i => s.sh.v.getD ((s.sh.w + 2047 - i) % 2048) F32.zero)
      let pos := win.filter (fun x => F32.lt F32.zero x)
      let neg := win.filter (fun x => F32.lt x F32.zero)
      let mp := F32.div (F32.sum pos) (F32.ofNat pos.length)
      let mn := F32.div (F32.sum neg) (F32.ofNat neg.length)
      let ms := (s.csr.get .slMsize).toNat % 2 ^ 11
      let r : BitVec 3 :=
        if s.csr.stageOn .ws = false then 1#3
        else if n = 0 ∨ s.sh.n < n then 2#3
        else if pos = [] ∨ neg = [] ∨ F32.lt (F32.sub mp mn) F32.one = true then 3#3
        else 0#3
      ∃ t, exec (.wstart n) s = .next t ∧
        t = State.ended { s with cfg := s.csr, sl := t.sl, lastWs := r, free := s.free + 1 } 1 [0#29 ++ r] ∧
        (r ≠ 0#3 → t.sl = s.sl) ∧
        (r = 0#3 →
          F32.lt (F32.sub t.sl.max t.sl.min) F32.one = false ∧
          t.sl.max = mp ∧ t.sl.min = mn ∧
          t.sl.center = F32.div (F32.add mp mn) (F32.ofNat 2) ∧
          t.sl.umid = F32.add t.sl.center (F32.mul (F32.ofRat 625 1000) (F32.sub t.sl.max t.sl.center)) ∧
          t.sl.lmid = F32.add t.sl.center (F32.mul (F32.ofRat 625 1000) (F32.sub t.sl.min t.sl.center)) ∧
          t.sl.maxref = F32.mul (F32.ofRat 80 100) t.sl.max ∧
          t.sl.minref = F32.mul (F32.ofRat 80 100) t.sl.min ∧
          t.sl.midx = 0 ∧ t.sl.fill = ms ∧
          t.sl.maxbuf.length = s.sl.maxbuf.length ∧ t.sl.minbuf.length = s.sl.minbuf.length ∧
          ∀ j : Nat,
            (j < ms →
              (j < s.sl.maxbuf.length → t.sl.maxbuf[j]? = some mp) ∧
              (j < s.sl.minbuf.length → t.sl.minbuf[j]? = some mn)) ∧
            (ms ≤ j → t.sl.maxbuf[j]? = s.sl.maxbuf[j]? ∧ t.sl.minbuf[j]? = s.sl.minbuf[j]?)))

/-- R228, R475, R470: `WSTART_CQ n`. The checks, the class means mp and mn and the result code are those of `WSTART`; on OK
only `center`, their midpoint, and the fields derived from it change: `max`, `min`, the buffers, `midx` and `fill` are kept.
The order of evaluation is the model's reading, notes/assumptions/7.md; spans with a NaN, 10.md. -/
def Obligations.WstartCqChangesCenterOnly : Prop :=
  ∀ (s : State) (n : Nat),
    (2048 < n → exec (.wstartCq n) s = .next (s.failed 1 0x05#8)) ∧
    (n ≤ 2048 →
      let win := (List.range n).map (fun i => s.sh.v.getD ((s.sh.w + 2047 - i) % 2048) F32.zero)
      let pos := win.filter (fun x => F32.lt F32.zero x)
      let neg := win.filter (fun x => F32.lt x F32.zero)
      let mp := F32.div (F32.sum pos) (F32.ofNat pos.length)
      let mn := F32.div (F32.sum neg) (F32.ofNat neg.length)
      let center := F32.div (F32.add mp mn) (F32.ofNat 2)
      let r : BitVec 3 :=
        if s.csr.stageOn .ws = false then 1#3
        else if n = 0 ∨ s.sh.n < n then 2#3
        else if pos = [] ∨ neg = [] ∨ F32.lt (F32.sub mp mn) F32.one = true then 3#3
        else 0#3
      exec (.wstartCq n) s =
        .next
          (State.ended
            { s with
              cfg := s.csr, lastWs := r, free := s.free + 1
              sl :=
                if r = 0#3 then
                  { s.sl with
                    center := center
                    umid := F32.add center (F32.mul (F32.ofRat 625 1000) (F32.sub s.sl.max center))
                    lmid := F32.add center (F32.mul (F32.ofRat 625 1000) (F32.sub s.sl.min center))
                    maxref := F32.mul (F32.ofRat 80 100) s.sl.max
                    minref := F32.mul (F32.ofRat 80 100) s.sl.min }
                else s.sl }
            1 [0#29 ++ r]))

/-- R229, R480, R481, R483, R145: `DMR_ROS`. With fewer than 24 symbols it latches the CSRs, answers 0x000002 and does nothing
else. Else it runs. The best pattern is the lowest index whose score over the 24 newest symbols is greatest (no score being a
NaN). The warm-start of the path over 24 symbols gives the slicer and the result. With that slicer the up to 66 symbols
before the 24 are decided again, oldest first, and each new dibit and reliability goes back to the symbol's place in the
rings. All of it goes into one `SYNC_OUT` entry and the payload; the symbols keep their values and places; no CSR, sync record
or count changes. That a score is a sum rounded term by term, the first term first, is the model's reading,
notes/assumptions/7.md; the counter of free values, which may move on, 10.md. -/
def Obligations.DmrRosCommand : Prop :=
  (∀ s : State, s.sh.n < 24 →
    exec .dmrRos s = .next (State.ended { s with cfg := s.csr, free := s.free + 1 } 1 [0x00000002#32])) ∧
  (∀ s : State, 24 ≤ s.sh.n →
    let value := fun i : Nat => s.sh.v.getD ((s.sh.w + 2047 - i) % 2048) F32.zero
    let patterns :=
      [0xDFF57D75DF5D, 0x755FD7DF75F7, 0xD5D7F77FD757, 0x7F7D5DD57DFD, 0xF7FDD5DDFD55, 0x5D577F7757FF, 0xD7557F5FF7F5,
        0x7DFFD5F55D5F]
    let score := fun q : Nat =>
      F32.sum ((List.range 24).map (fun i =>
        F32.mul (value (23 - i)) (if patterns.getD q 0 / 4 ^ (23 - i) % 4 = 1 then F32.ofNat 3 else F32.ofInt (-3))))
    let k := min 66 (s.sh.n - 24)
    let place := fun j : Nat => (s.sh.w + 2047 - (23 + k - j)) % 2048
    ∃ (t : State) (best : Nat) (dib : List (Dibit × Rel)), exec .dmrRos s = .next t ∧ best < 8 ∧
      ((∀ q < 8, (score q).isNan = false) →
        (∀ q < 8, F32.lt (score best) (score q) = false) ∧ ∀ q < best, F32.lt (score q) (score best) = true) ∧
      (∃ u, exec (if s.csr.cqpsk = true then .wstartCq 24 else .wstart 24) s = .next u ∧ t.sl = u.sl ∧
        t.lastWs = u.lastWs) ∧
      dib.length = k ∧
      (∀ j < k,
        let x := value (23 + k - j)
        let v := F32.sub x t.sl.center
        let d : Dibit :=
          if s.csr.cqpsk = true then
            (if F32.le F32.zero v = true then (if F32.lt (F32.ofNat 2) v = true then 1#2 else 0#2)
            else (if F32.lt v (F32.ofInt (-2)) = true then 3#2 else 2#2))
          else
            (if F32.le t.sl.center x = true then (if F32.lt t.sl.umid x = true then 1#2 else 0#2)
            else (if F32.lt x t.sl.lmid = true then 3#2 else 2#2))
        let dout :=
          if s.csr.cqpsk = true ∧ s.csr.stageOn .perm = true ∧ s.permLock = true then s.perm.apply d else d
        let r := if s.csr.cqpsk = true then relCq Params.default t.sl x else relFm Params.default t.sl x
        dib[j]? = some (dout, r) ∧
          (s.sh.d.length = 2048 → t.sh.d[place j]? = some dout) ∧ (s.sh.r.length = 2048 → t.sh.r[place j]? = some r)) ∧
      (∀ m : Nat, (∀ j < k, m ≠ place j) → t.sh.d[m]? = s.sh.d[m]? ∧ t.sh.r[m]? = s.sh.r[m]?) ∧
      t.dmr.best = best ∧ t.dmr.bvalid = true ∧ t.dmr.init = true ∧
      t.sh.v = s.sh.v ∧ t.sh.w = s.sh.w ∧ t.sh.n = s.sh.n ∧
      t =
        { s with
          cfg := s.csr, sl := t.sl, sh := t.sh, dmr := t.dmr, lastWs := t.lastWs, free := t.free
          ports :=
            { s.ports with
              cmd := s.ports.cmd.drop 1
              resp := s.ports.resp ++ [0#24 ++ (1#1 ++ BitVec.ofNat 3 best ++ 0#1 ++ t.lastWs)]
              syncOut := s.ports.syncOut ++
                [⟨s.sync.type, s.symcount - 1, t.lastWs,
                  if s.csr.cqpsk && s.csr.stageOn .perm then s.perm.bits else 0#8, some ⟨best, dib⟩⟩] } })

/-- R486, R6: the DMR equalizer after `DMR_ROS`. The class means mp and mn of the 24 newest symbols, by the levels of the best
pattern, give the targets (mp + mn)/2 and 3/((mp − mn)/2), the old gain where mp − mn is not above 0; the first update takes
the targets, later ones move by 0.15 of the way; both are clamped. So whatever the symbols, the balance is within ±1.047 and
the gain within 1.00 to 1.25 (or a NaN, where the symbols hold non-finite values). That a clamp passes a NaN through is the
model's choice, notes/assumptions/10.md; the order of evaluation, 7.md. -/
def Obligations.DmrEqualizerClamped : Prop :=
  ∀ s : State, 24 ≤ s.sh.n →
    let patterns :=
      [0xDFF57D75DF5D, 0x755FD7DF75F7, 0xD5D7F77FD757, 0x7F7D5DD57DFD, 0xF7FDD5DDFD55, 0x5D577F7757FF, 0xD7557F5FF7F5,
        0x7DFFD5F55D5F]
    ∃ t, exec .dmrRos s = .next t ∧
      F32.lt t.dmr.balance (F32.neg (F32.ofRat 1047 1000)) = false ∧
      F32.lt (F32.ofRat 1047 1000) t.dmr.balance = false ∧
      F32.lt t.dmr.gain F32.one = false ∧ F32.lt (F32.ofRat 125 100) t.dmr.gain = false ∧
      (let symbols := fun d : Nat =>
        ((List.range 24).filter (fun i => patterns.getD t.dmr.best 0 / 4 ^ (23 - i) % 4 = d)).map
          (fun i => s.sh.v.getD ((s.sh.w + 2047 - (23 - i)) % 2048) F32.zero)
      let mp := F32.div (F32.sum (symbols 1)) (F32.ofNat (symbols 1).length)
      let mn := F32.div (F32.sum (symbols 3)) (F32.ofNat (symbols 3).length)
      let bt := F32.div (F32.add mp mn) (F32.ofNat 2)
      let gt :=
        if F32.lt F32.zero (F32.sub mp mn) = true then
          F32.div (F32.ofNat 3) (F32.div (F32.sub mp mn) (F32.ofNat 2))
        else s.dmr.gain
      let c := F32.ofRat 15 100
      let balance :=
        if s.dmr.init = true then F32.add s.dmr.balance (F32.mul c (F32.sub bt s.dmr.balance)) else bt
      let gain := if s.dmr.init = true then F32.add s.dmr.gain (F32.mul c (F32.sub gt s.dmr.gain)) else gt
      t.dmr.balance = F32.clamp balance (F32.neg (F32.ofRat 1047 1000)) (F32.ofRat 1047 1000) ∧
        t.dmr.gain = F32.clamp gain F32.one (F32.ofRat 125 100))

/-- R230, R530, whole: `CLASSIFY id` answers the eleven predicate bits of its ID and changes nothing else; each bit is true
for the IDs that the table of R530 lists; an ID outside the closed set of R503, −1, 39 and 40 give 0. As a step, a word with
OP 0x40 classifies its sign-extended immediate, and raises BAD_FORMAT where its bits 23:16 are not 0. -/
def Obligations.ClassifyPredicates : Prop :=
  (∀ (s : State) (w : Word) (rest : List Word), s.ports.cmd = w :: rest → w.extractLsb' 24 8 = 0x40#8 →
    step s =
      if w.extractLsb' 16 8 = 0#8 then
        .next
          { s with ports :=
              { s.ports with
                cmd := rest, resp := s.ports.resp ++ [0#21 ++ predicates (w.extractLsb' 0 16).toInt] } }
      else
        .next
          { s with err := true, lastErr := 0x02#8
                   ports := { s.ports with cmd := rest, resp := s.ports.resp ++ [0x02000000#32] } }) ∧
  ∀ (s : State) (id : Int),
    exec (.classify id) s = .next (s.ended 1 [0#21 ++ predicates id]) ∧
      ((predicates id).getLsbD 0 = true ↔ id ∈ [0, 1]) ∧
      ((predicates id).getLsbD 1 = true ↔ id ∈ [35, 36]) ∧
      ((predicates id).getLsbD 2 = true ↔ id ∈ [10, 11, 12, 13]) ∧
      ((predicates id).getLsbD 3 = true ↔ id ∈ [32, 33, 34]) ∧
      ((predicates id).getLsbD 4 = true ↔ id ∈ [6, 7, 18, 19]) ∧
      ((predicates id).getLsbD 5 = true ↔ id ∈ [8, 9, 16, 17, 76, 77, 86, 87, 98, 99]) ∧
      ((predicates id).getLsbD 6 = true ↔ id ∈ [28, 29]) ∧
      ((predicates id).getLsbD 7 = true ↔ id ∈ [30, 31]) ∧
      ((predicates id).getLsbD 8 = true ↔ id ∈ [20, 21, 22, 23, 24, 25, 26, 27]) ∧
      ((predicates id).getLsbD 9 = true ↔ id ∈ [37, 38]) ∧
      ((predicates id).getLsbD 10 = true ↔
        id ∈ [1, 3, 5, 7, 9, 11, 13, 15, 17, 19, 24, 25, 26, 27, 29, 31, 36, 38, 77, 87, 99]) ∧
      (id ∉ syncTypeIds ∨ id ∈ [-1, 39, 40] → predicates id = 0#11)

/-! ## Stage operations -/

/-- R43 to R59, R261: every stage of the sample and symbol stream completes on every state, and changes nothing but its
own state elements and the stream: no CSR, no port, no other stage's state. That a stage is an instruction over the
block's stream is the model's reading, notes/assumptions/2.md. -/
def Obligations.StreamStagesFrame : Prop :=
  ∀ s : State,
    (∃ t, exec .stageFs4 s = .next t ∧
      t = { s with fs4n := t.fs4n, work := { s.work with xs := t.work.xs } }) ∧
    (∃ t, exec .stageHb s = .next t ∧ t = { s with hb := t.hb, work := { s.work with xs := t.work.xs } }) ∧
    (∃ t, exec .stageDcb s = .next t ∧ t = { s with dc := t.dc, work := { s.work with xs := t.work.xs } }) ∧
    (∃ t, exec .stageAgc s = .next t ∧ t = { s with agc := t.agc, work := { s.work with xs := t.work.xs } }) ∧
    (∃ t, exec .stageLim s = .next t ∧ t = { s with work := { s.work with xs := t.work.xs } }) ∧
    (∃ t, exec .stageIqb s = .next t ∧ t = { s with iqb := t.iqb, work := { s.work with xs := t.work.xs } }) ∧
    (∃ t, exec .stageBefll s = .next t ∧
      t =
        { s with
          be := { s.be with phase := t.be.phase, freq := t.be.freq, h := t.be.h }
          work := { s.work with xs := t.work.xs } }) ∧
    (∃ t, exec .stageCostas s = .next t ∧
      t = { s with cos := t.cos, ted := t.ted, work := { s.work with xs := t.work.xs } }) ∧
    (∃ t, exec .stageTed s = .next t ∧ t = { s with ted := t.ted, work := { s.work with xs := t.work.xs } }) ∧
    (∃ t, exec .stageEq s = .next t ∧ t = { s with eq := t.eq, work := { s.work with xs := t.work.xs } }) ∧
    (∃ t, exec .stageLfll s = .next t ∧ t = { s with lf := t.lf, work := { s.work with xs := t.work.xs } }) ∧
    (∃ t, exec .stageDisc s = .next t ∧
      t = { s with discPrev := t.discPrev, work := { s.work with xs := t.work.xs } }) ∧
    (∃ t, exec .stageDeemph s = .next t ∧
      t = { s with de := { s.de with y := t.de.y }, work := { s.work with xs := t.work.xs } }) ∧
    (∃ t, exec .stageChlpf s = .next t ∧
      t = { s with ch := { s.ch with h := t.ch.h }, work := { s.work with xs := t.work.xs } }) ∧
    (∃ t, exec .stageAlpf s = .next t ∧
      t = { s with al := { s.al with y := t.al.y }, work := { s.work with xs := t.work.xs } }) ∧
    (∃ t, exec .stageResamp s = .next t ∧
      t = { s with rs := { s.rs with h := t.rs.h, acc := t.rs.acc }, work := { s.work with xs := t.work.xs } }) ∧
    (∃ t, exec .stageDiff s = .next t ∧
      t = { s with diffPrev := t.diffPrev, work := { s.work with xs := t.work.xs } })

/-- R260, R264, R319, R316, R430, and for the symbol chain R458, R512, R520, R521, R470, R480: a stage whose STAGE_EN bit is
0, or whose path is not the active one, is the identity; so is the TED beside an enabled Costas stage on the CQPSK path, and
the resampler where the reduced factors are equal. A slicer that is off discards the symbols (R458). A scanner that is off
sees no dibit (R512), a permutation search that is off or off its path changes neither permutation nor lock (R520, R521), and
a detection runs no warm-start and no resample-on-sync that is off (R470, R480, R512). Stages as instructions: the model's
reading, notes/assumptions/2.md. -/
def Obligations.DisabledStagesAreIdentity : Prop :=
  ∀ s : State,
    (s.on .fs4 = false → exec .stageFs4 s = .next s) ∧
    (s.on .hb = false → exec .stageHb s = .next s) ∧
    (s.on .dcb = false → exec .stageDcb s = .next s) ∧
    (s.on .agc = false ∨ s.cfg.cqpsk = true → exec .stageAgc s = .next s) ∧
    (s.on .lim = false ∨ s.cfg.cqpsk = true → exec .stageLim s = .next s) ∧
    (s.on .iqb = false → exec .stageIqb s = .next s) ∧
    (s.on .befll = false ∨ s.cfg.cqpsk = false → exec .stageBefll s = .next s) ∧
    (s.on .costas = false ∨ s.cfg.cqpsk = false → exec .stageCostas s = .next s) ∧
    (s.on .ted = false ∨ (s.cfg.cqpsk = true ∧ s.on .costas = true) → exec .stageTed s = .next s) ∧
    (s.on .eq = false ∨ s.cfg.cqpsk = false → exec .stageEq s = .next s) ∧
    (s.on .lfll = false ∨ s.cfg.cqpsk = true → exec .stageLfll s = .next s) ∧
    (s.on .disc = false ∨ s.cfg.cqpsk = true → exec .stageDisc s = .next s) ∧
    (s.on .deemph = false ∨ s.cfg.cqpsk = true → exec .stageDeemph s = .next s) ∧
    (s.on .chlpf = false → exec .stageChlpf s = .next s) ∧
    (s.on .alpf = false ∨ s.cfg.cqpsk = true → exec .stageAlpf s = .next s) ∧
    (s.on .resamp = false ∨ s.cfg.ratio.1 = s.cfg.ratio.2 → exec .stageResamp s = .next s) ∧
    (s.on .diff = false ∨ s.cfg.cqpsk = false → exec .stageDiff s = .next s) ∧
    (s.on .slice = false → exec .stageSlice s = .next (s.withStream [])) ∧
    (s.on .scan = false → exec .stageScan s = .next s) ∧
    (s.on .ws = false → exec .stageWs s = .next s) ∧
    (s.on .dmrRos = false → exec .stageDmrRos s = .next s) ∧
    (s.on .perm = false ∨ s.cfg.cqpsk = false → exec .stagePerm s = .next s)

/-- R261, R272, R458: for every stage that works sample by sample, the slicer with its whole symbol chain among them, running
it on a stream is running it on the first part and then on the rest, state and output alike: where a stream is cut into
blocks does not show, and what a detection changes acts on the very next symbol. (The legacy FLL is not among them: it
updates once per block, R390.) Stages as instructions: the model's reading, notes/assumptions/2.md. -/
def Obligations.StagesIgnoreBlockBoundaries : Prop :=
  ∀ i ∈ [Instr.stageFs4, .stageHb, .stageDcb, .stageAgc, .stageLim, .stageIqb, .stageBefll, .stageCostas, .stageTed,
      .stageEq, .stageDisc, .stageDeemph, .stageChlpf, .stageAlpf, .stageResamp, .stageDiff, .stageSlice],
    ∀ (s : State) (xs ys : List C32), ∃ t1 t2 : State,
      exec i (s.withStream xs) = .next t1 ∧ exec i (t1.withStream ys) = .next t2 ∧
        exec i (s.withStream (xs ++ ys)) = .next (t2.withStream (t1.work.xs ++ t2.work.xs))

/-- R270: the fs/4 shift multiplies sample m of the stream by j^(n + m), n being the rotation index before it, and adds
the length of the stream to the index modulo 4; the rate is unchanged and nothing else changes. The sign of a zero is the
model's choice, notes/assumptions/9.md. -/
def Obligations.Fs4ShiftRotates : Prop :=
  ∀ s : State, s.on .fs4 = true → s.fs4n < 4 →
    ∃ t, exec .stageFs4 s = .next t ∧
      t = { s with fs4n := (s.fs4n + s.work.xs.length) % 4, work := { s.work with xs := t.work.xs } } ∧
      t.work.xs.length = s.work.xs.length ∧
      ∀ (m : Nat) (x : C32), s.work.xs[m]? = some x →
        t.work.xs[m]? = some
          (if (s.fs4n + m) % 4 = 0 then x
            else if (s.fs4n + m) % 4 = 1 then ⟨F32.neg x.im, x.re⟩
            else if (s.fs4n + m) % 4 = 2 then ⟨F32.neg x.re, F32.neg x.im⟩
            else ⟨x.im, F32.neg x.re⟩)

/-- R272, R273: the half-band cascade. One stage on one sample: at the first of two inputs it emits nothing, at the second the
sum of the taps `HB_TAPS` over the window, newest first; the sample enters the history and the parity flips. It does so with
any `HB_TAPS` in any format REAL, and by default with the seven taps of R273 in binary32. With HB_STAGES n + 1 the first stage
runs as it does alone, and the other n run, as a cascade of n does, on what it emits. With HB_STAGES 0 the cascade is the
identity. The order of evaluation is the model's reading, notes/assumptions/7.md; `HB_TAPS` and the format as arguments, 21.md
and 24.md. -/
def Obligations.HalfBandSample : Prop :=
  (∀ s : State, (s.cfg.get .hbStages).toNat % 8 = 0 → exec .stageHb s = .next s) ∧
  (∀ (R : Type) (p : Params R) (s : State.Of R) (h : HbStage R) (hs : List (HbStage R)) (x : Cplx R), s.on .hb = true →
    (s.cfg.get .hbStages).toNat % 8 = 1 → s.hb = h :: hs → s.work.xs = [x] →
    execWith p .stageHb s =
      .next
        { s with
          hb := ⟨(x :: h.h).take h.h.length, !h.ph⟩ :: hs
          work :=
            { s.work with
              xs := if h.ph = true then [p.real.csum (List.zipWith p.real.scale p.hbTaps (x :: h.h))] else [] } }) ∧
  (∀ (s : State) (h : HbStage F32) (hs : List (HbStage F32)) (x : C32), s.on .hb = true →
    (s.cfg.get .hbStages).toNat % 8 = 1 → s.hb = h :: hs → s.work.xs = [x] →
    let taps :=
      [F32.ofRat (-1) 32, F32.ofRat 0 32, F32.ofRat 9 32, F32.ofRat 16 32, F32.ofRat 9 32, F32.ofRat 0 32,
        F32.ofRat (-1) 32]
    exec .stageHb s =
      .next
        { s with
          hb := ⟨(x :: h.h).take h.h.length, !h.ph⟩ :: hs
          work :=
            { s.work with
              xs := if h.ph = true then [C32.sum (List.zipWith C32.scale taps (x :: h.h))] else [] } }) ∧
  (∀ (s : State) (h : HbStage F32) (hs : List (HbStage F32)) (n : Nat), s.on .hb = true →
    (s.cfg.get .hbStages).toNat % 8 = n + 1 → s.hb = h :: hs →
    ∃ a b : State,
      exec .stageHb { s with cfg := s.cfg.set .hbStages 1#32, hb := [h] } = .next a ∧
      exec .stageHb { s with cfg := s.cfg.set .hbStages (BitVec.ofNat 32 n), hb := hs, work := a.work } = .next b ∧
      a.hb.length = 1 ∧ exec .stageHb s = .next { s with hb := a.hb ++ b.hb, work := b.work })

/-- R275: the DC block on one sample: `dc + (x − dc)·2^−k` per part, and the updated estimate is subtracted. The order of
evaluation is the model's reading, notes/assumptions/7.md. -/
def Obligations.DcBlockSample : Prop :=
  ∀ (s : State) (x : C32), s.on .dcb = true → s.work.xs = [x] →
    let c := F32.ofRat 1 (2 ^ ((s.cfg.get .dcbK).toNat % 16))
    let re := F32.add s.dc.re (F32.mul c (F32.sub x.re s.dc.re))
    let im := F32.add s.dc.im (F32.mul c (F32.sub x.im s.dc.im))
    exec .stageDcb s =
      .next { s with dc := ⟨re, im⟩, work := { s.work with xs := [⟨F32.sub x.re re, F32.sub x.im im⟩] } }

/-- R277: the AGC on one sample: smoothed power, the gain held below the minimum RMS, else moved towards T/r by the attack
coefficient when it falls and the release coefficient when it rises; the new gain is applied. The order of evaluation is
the model's reading, notes/assumptions/7.md. -/
def Obligations.AgcSample : Prop :=
  ∀ (s : State) (z : C32), s.on .agc = true → s.cfg.cqpsk = false → s.work.xs = [z] →
    let p := F32.add s.agc.p (F32.mul (s.cfg.real .agcEnv) (F32.sub (C32.norm z) s.agc.p))
    let r := F32.sqrt p
    let gt := F32.div (s.cfg.real .agcTarget) r
    let c := if F32.lt gt s.agc.g = true then s.cfg.real .agcAttack else s.cfg.real .agcRelease
    let g :=
      if F32.le (s.cfg.real .agcMin) r = true ∧ F32.lt F32.zero r = true then
        F32.add s.agc.g (F32.mul c (F32.sub gt s.agc.g))
      else s.agc.g
    exec .stageAgc s =
      .next { s with agc := ⟨p, g⟩, work := { s.work with xs := [⟨F32.mul g z.re, F32.mul g z.im⟩] } }

/-- R280, R48: the limiter maps each sample by itself: one whose magnitude m > 0 lies outside the closed window [0.5·T,
2.0·T] is multiplied by T/m, every other passes unchanged; it has no state. That a real factor multiplies each part once
is the model's reading, notes/assumptions/7.md. -/
def Obligations.LimiterSamples : Prop :=
  ∀ s : State, s.on .lim = true → s.cfg.cqpsk = false →
    let t := s.cfg.real .agcTarget
    ∃ u, exec .stageLim s = .next u ∧ u = { s with work := { s.work with xs := u.work.xs } } ∧
      u.work.xs.length = s.work.xs.length ∧
      ∀ (m : Nat) (z : C32), s.work.xs[m]? = some z →
        u.work.xs[m]? = some
          (if F32.lt F32.zero (C32.abs z) = true ∧
              (F32.lt (C32.abs z) (F32.mul (F32.ofRat 1 2) t) = true ∨
                F32.lt (F32.mul (F32.ofNat 2) t) (C32.abs z) = true) then
            ⟨F32.mul (F32.div t (C32.abs z)) z.re, F32.mul (F32.div t (C32.abs z)) z.im⟩
          else z)

/-- R282: the IQ balance on one sample: correlation and power averages, their quotient α (0 where the power is not
positive), and the image subtracted where |α| exceeds the threshold. The order of evaluation is the model's reading,
notes/assumptions/7.md. -/
def Obligations.IqBalanceSample : Prop :=
  ∀ (s : State) (z : C32), s.on .iqb = true → s.work.xs = [z] →
    let mu := s.cfg.real .iqbMu
    let c := C32.add s.iqb.c (C32.scale mu (C32.sub (C32.mul z z) s.iqb.c))
    let p := F32.add s.iqb.p (F32.mul mu (F32.sub (C32.norm z) s.iqb.p))
    let a : C32 := if F32.lt F32.zero p = true then ⟨F32.div c.re p, F32.div c.im p⟩ else C32.zero
    let y : C32 :=
      if F32.lt (s.cfg.real .iqbThr) (C32.abs a) = true then
        C32.sub z (C32.mul ⟨F32.div a.re (F32.ofNat 2), F32.div a.im (F32.ofNat 2)⟩ (C32.conj z))
      else z
    exec .stageIqb s = .next { s with iqb := ⟨c, p, a⟩, work := { s.work with xs := [y] } }

/-- R312: the band-edge FLL on one sample: rotate, filter by both band edges, advance the phase with the unclamped
frequency, then clamp the frequency; the rotated sample enters the history and is emitted. The order of evaluation and
`wrap` are the model's reading, notes/assumptions/7.md and 6.md; a frequency that a new design left out of range, 27.md. -/
def Obligations.BandEdgeSample : Prop :=
  ∀ (s : State) (x : C32), s.on .befll = true → s.cfg.cqpsk = true → s.work.xs = [x] →
    let y := C32.mul x ⟨F32.cos s.be.phase, F32.sin s.be.phase⟩
    let ylo := C32.sum (List.zipWith C32.mul s.be.lo (y :: s.be.h))
    let yup := C32.sum (List.zipWith C32.mul s.be.up (y :: s.be.h))
    let err := F32.sub (C32.norm ylo) (C32.norm yup)
    let freq := F32.add s.be.freq (F32.mul s.be.beta err)
    let phase := F32.wrap (F32.add (F32.add s.be.phase freq) (F32.mul s.be.alpha err))
    exec .stageBefll s =
      .next
        { s with
          be :=
            { s.be with
              phase := phase
              freq := F32.clamp freq (F32.neg s.be.fmax) s.be.fmax
              h := (y :: s.be.h).take s.be.h.length }
          work := { s.work with xs := [y] } }

/-- R330, R331, R319: the Gardner TED alone on one sample: the sample enters the history and the time to the strobe falls
by 1; at a strobe the symbol and the mid-symbol sample are interpolated linearly between the two history entries around
their age, and the Gardner error moves the next strobe by at most half a sample. The order of evaluation is the model's
reading, notes/assumptions/7.md; an age that is not finite, which no run reaches, reads from entry 0, 10.md; a gain of 0 is no
exception, 26.md. -/
def Obligations.TedSample : Prop :=
  ∀ (s : State) (x : C32), s.on .ted = true → s.cfg.cqpsk = false ∨ s.on .costas = false → s.work.xs = [x] →
    let h := (x :: s.ted.h).take s.ted.h.length
    let t := F32.sub s.ted.t F32.one
    let a := F32.neg t
    let interp := fun age : F32 =>
      let i := if age.isFinite = true then age.units.toNat / 2 ^ 149 else 0
      let f := F32.sub age (F32.ofNat i)
      C32.add (C32.scale (F32.sub F32.one f) (h.getD i C32.zero)) (C32.scale f (h.getD (i + 1) C32.zero))
    let yk := interp a
    let ym := interp (F32.add a (F32.div s.ted.omega (F32.ofNat 2)))
    let e := (C32.mul (C32.sub yk s.ted.yprev) (C32.conj ym)).re
    let g := F32.ofRat (s.cfg.get .tedGainQ20).toInt 1048576
    exec .stageTed s =
      .next
        (if F32.le t F32.zero = true then
          { s with
            ted :=
              { s.ted with
                h := h, mu := a, yprev := yk
                t :=
                  F32.sub (F32.add t s.ted.omega)
                    (F32.clamp (F32.mul g e) (F32.neg (F32.ofRat 1 2)) (F32.ofRat 1 2)) }
            work := { s.work with xs := [yk] } }
        else { s with ted := { s.ted with h := h, t := t }, work := { s.work with xs := [] } })

/-- R316, R318, R315: the Costas stage on one sample. Its TED does what STAGE.TED alone does, whatever STAGE_EN.TED holds.
Where it emits no symbol the loop stands still; where it emits `yk`, the first symbol since a reset starts from phase and
frequency 0, the symbol rotated by the phase before the update is emitted, and error (the four cases of R315), frequency
(clamped) and phase follow R316. The order of evaluation and `wrap` are the model's reading, notes/assumptions/7.md and 6.md;
the error of a NaN symbol, 10.md; that zero gains are no exception, and that a lowered bound acts at the next symbol, 26.md and
27.md. -/
def Obligations.CostasSample : Prop :=
  ∀ (s : State) (x : C32), s.on .costas = true → s.cfg.cqpsk = true → s.work.xs = [x] →
    ∃ u : State, exec .stageTed { s with cfg := s.cfg.set .stageEn 0x00000200#32 } = .next u ∧
      (u.work.xs = [] → exec .stageCostas s = .next { s with ted := u.ted, work := { s.work with xs := [] } }) ∧
      (∀ yk : C32, u.work.xs = [yk] →
        let phase := if s.cos.init = true then s.cos.phase else F32.zero
        let freq := if s.cos.init = true then s.cos.freq else F32.zero
        let sym := C32.mul yk ⟨F32.cos phase, F32.sin phase⟩
        let e :=
          if sym.re.isNan = true ∨ sym.im.isNan = true then F32.nan
          else if F32.lt (F32.abs sym.im) (F32.abs sym.re) = true then
            (if F32.lt F32.zero sym.re = true then F32.neg sym.im else sym.im)
          else
            (if F32.lt F32.zero sym.im = true then sym.re else F32.neg sym.re)
        let freq' :=
          F32.clamp (F32.add freq (F32.mul (s.cfg.real .costasBeta) e)) (F32.neg (s.cfg.real .costasMaxf))
            (s.cfg.real .costasMaxf)
        exec .stageCostas s =
          .next
            { s with
              ted := u.ted
              cos := ⟨F32.wrap (F32.add (F32.add phase freq') (F32.mul (s.cfg.real .costasAlpha) e)), freq', e, true⟩
              work := { s.work with xs := [sym] } }) ∧
      (u.work.xs = [] ∨ ∃ yk, u.work.xs = [yk])

/-- R340, R395: the differential phasor and the discriminator multiply each sample by the conjugate of the one before it
and remember the sample; the discriminator emits the Q14 phase of the product divided by 16384: with the default `ATAN2_Q14`
in binary32, and with any `ATAN2_Q14` of R8 in any format REAL, by that format's own operations. The order of evaluation is the
model's reading, notes/assumptions/7.md; `ATAN2_Q14` and the format as arguments, 21.md and 24.md; that the first sample is no
exception, 26.md. -/
def Obligations.PhaseStepSamples : Prop :=
  (∀ (s : State) (x : C32), s.work.xs = [x] →
    (s.on .diff = true → s.cfg.cqpsk = true →
      exec .stageDiff s =
        .next { s with diffPrev := x, work := { s.work with xs := [C32.mul x (C32.conj s.diffPrev)] } }) ∧
    (s.on .disc = true → s.cfg.cqpsk = false →
      let d := C32.mul x (C32.conj s.discPrev)
      exec .stageDisc s =
        .next
          { s with
            discPrev := x
            work := { s.work with xs := [⟨F32.ofRat (F32.atan2Q14 d.im d.re) 16384, F32.zero⟩] } })) ∧
  (∀ (R : Type) (p : Params R) (s : State.Of R) (x : Cplx R), s.work.xs = [x] →
    let F := p.real
    let product := fun y : Cplx R =>
      (⟨F.sub (F.mul x.re y.re) (F.mul x.im (F.neg y.im)), F.add (F.mul x.re (F.neg y.im)) (F.mul x.im y.re)⟩ : Cplx R)
    (s.on .diff = true → s.cfg.cqpsk = true →
      execWith p .stageDiff s = .next { s with diffPrev := x, work := { s.work with xs := [product s.diffPrev] } }) ∧
    (s.on .disc = true → s.cfg.cqpsk = false →
      let d := product s.discPrev
      execWith p .stageDisc s =
        .next { s with discPrev := x, work := { s.work with xs := [⟨F.ofRat (p.atan2Q14 d.im d.re) 16384, F.zero⟩] } }))

/-- R364: while LMS_EN is 0 the equalizer changes no tap and no counter, whatever symbols pass: `w`, `v`, `b`, `cma` and
`stride` keep their values, one symbol leaves for each that enters, and LMS_EN = 0 is recorded. -/
def Obligations.EqualizerWithoutLmsKeepsTaps : Prop :=
  ∀ s : State, s.on .eq = true → s.cfg.cqpsk = true → s.cfg.lmsEn = false →
    ∃ t, exec .stageEq s = .next t ∧
      t.eq =
        { s.eq with
          x := t.eq.x, d := t.eq.d, imc := t.eq.imc, imp := t.eq.imp, wl := t.eq.wl, lmsPrev := false } ∧
      t.work.xs.length = s.work.xs.length

/-- R361 to R364: one symbol through the equalizer. First with one tap (FFE_LEN 1, no DFE, no widely-linear branch), LMS on
and the warmup over: the output is `w·x`, the decision a nearest of 1, −1, j, −j, and at an update the tap moves by `μ·(a −
y)·conj(x)`. Then for every configuration: a rising edge of LMS_EN loads the warmup, the gate compares the improperness with
its threshold, the output is FFE plus the gated conjugate branch less the DFE, the error is CMA while the warmup lasts and
decision-directed after it, and the taps move only at every `update_stride`-th symbol, the leakage acting also while the gate
is off. The order of evaluation is the model's reading, notes/assumptions/7.md; that a step size of 0 is no exception (the
leakage acts, and the products with 0 are formed) is the model's choice, notes/assumptions/23.md; nor is one tap, 26.md. -/
def Obligations.EqualizerOneTapLms : Prop :=
  (∀ (s : State) (x w v : C32) (ws vs : List C32), s.on .eq = true → s.cfg.cqpsk = true → s.cfg.lmsEn = true →
    s.cfg.wlEn = false → s.cfg.ffeLen = 1 → s.cfg.dfeLen = 0 → s.eq.lmsPrev = true → s.eq.cma = 0 →
    s.eq.w = w :: ws → s.eq.v = v :: vs → s.eq.x.length = 31 → s.work.xs = [x] →
    (s.cfg.get .eqStride).toNat % 65536 ≤ s.eq.stride + 1 →
    let y := C32.sub (C32.mul w x) C32.zero
    let a : C32 :=
      if F32.le (F32.abs y.im) (F32.abs y.re) = true then
        ⟨if F32.le F32.zero y.re = true then F32.one else F32.neg F32.one, F32.zero⟩
      else ⟨F32.zero, if F32.le F32.zero y.im = true then F32.one else F32.neg F32.one⟩
    ∃ t, exec .stageEq s = .next t ∧ t.work.xs = [y] ∧
      t.eq.w = C32.add w (C32.scale (s.cfg.eqMu .binary32) (C32.mul (C32.sub a y) (C32.conj x))) :: ws ∧
      t.eq.v = C32.sub v (C32.scale (F32.ofRat 1 (2 ^ s.cfg.wlLeakShift)) v) :: vs ∧
      t.eq.b = s.eq.b ∧ t.eq.cma = 0 ∧ t.eq.stride = 0 ∧ t.eq.wl = false ∧
      t.eq.d = (a :: s.eq.d).take s.eq.d.length ∧ t.eq.x = (x :: s.eq.x).take 31) ∧
  (∀ (s : State) (x : C32), s.on .eq = true → s.cfg.cqpsk = true → s.work.xs = [x] →
    let c := (s.cfg.get .eqCfg).toNat
    let l := c % 32
    let n := c / 2 ^ 8 % 8
    let wlEn := (s.cfg.get .eqCfg).getLsbD 12
    let lmsEn := (s.cfg.get .eqCfg).getLsbD 13
    let leak := F32.ofRat 1 (2 ^ (c / 2 ^ 16 % 32))
    let mu := F32.ofRat ((s.cfg.get .eqMuQ15).toNat % 65536 : Nat) 32768
    let gate := F32.ofRat ((s.cfg.get .eqWlGateQ15).toNat % 65536 : Nat) 32768
    let cma :=
      if lmsEn = true ∧ s.eq.lmsPrev = false then (s.cfg.get .eqCmaWarmup).toNat % 65536 else s.eq.cma
    let imc := C32.add s.eq.imc (C32.scale (F32.ofRat 1 64) (C32.sub (C32.mul x x) s.eq.imc))
    let imp := F32.add s.eq.imp (F32.mul (F32.ofRat 1 64) (F32.sub (C32.norm x) s.eq.imp))
    let improp := if F32.lt F32.zero imp = true then F32.div (C32.abs imc) imp else F32.zero
    let wl := wlEn && F32.lt gate improp
    let hx := (x :: s.eq.x).take s.eq.x.length
    let ffe := C32.sum (List.zipWith C32.mul (s.eq.w.take l) hx)
    let branch :=
      if wl = true then C32.add ffe (C32.sum (List.zipWith C32.mul (s.eq.v.take l) (hx.map C32.conj))) else ffe
    let y := C32.sub branch (C32.sum (List.zipWith C32.mul (s.eq.b.take n) s.eq.d))
    let a : C32 :=
      if F32.le (F32.abs y.im) (F32.abs y.re) = true then
        ⟨if F32.le F32.zero y.re = true then F32.one else F32.neg F32.one, F32.zero⟩
      else ⟨F32.zero, if F32.le F32.zero y.im = true then F32.one else F32.neg F32.one⟩
    let e := if 0 < cma then C32.scale (F32.sub F32.one (C32.norm y)) y else C32.sub a y
    let due := (s.cfg.get .eqStride).toNat % 65536 ≤ s.eq.stride + 1
    let update := lmsEn = true ∧ due
    exec .stageEq s =
      .next
        { s with
          eq :=
            { w :=
                if update then
                  List.zipWith (fun w h => C32.add w (C32.scale mu (C32.mul e (C32.conj h)))) (s.eq.w.take l) hx
                    ++ s.eq.w.drop l
                else s.eq.w
              v :=
                if update then
                  List.zipWith
                      (fun v h =>
                        let moved := if wl = true then C32.add v (C32.scale mu (C32.mul e h)) else v
                        C32.sub moved (C32.scale leak moved))
                      (s.eq.v.take l) hx
                    ++ s.eq.v.drop l
                else s.eq.v
              b :=
                if update then
                  List.zipWith (fun b h => C32.sub b (C32.scale mu (C32.mul e (C32.conj h)))) (s.eq.b.take n) s.eq.d
                    ++ s.eq.b.drop n
                else s.eq.b
              x := hx
              d := (a :: s.eq.d).take s.eq.d.length
              imc := imc
              imp := imp
              cma := if lmsEn = true then cma - 1 else cma
              stride := if lmsEn = true then (if due then 0 else s.eq.stride + 1) else s.eq.stride
              wl := wl
              lmsPrev := lmsEn }
          work := { s.work with xs := [y] } })

/-- R390: the legacy FLL on a block of at least one sample. Sample m is rotated down by the phase after m steps of `freq`; the
lag-1 autocorrelation of the output gives the residual frequency in Q14 units, 0 inside the deadband; the leaky integrator,
the PI sum, the slew limit and the clamps follow once per block; the last output sample is remembered. So the integrator and
the frequency are within ±4096 (or a NaN, where the samples or gains are not finite). That a clamp passes a NaN through is
the model's choice, notes/assumptions/10.md, and that gains of 0 are no exception, 26.md; the order of evaluation, `wrap` and π,
5.md, 6.md and 7.md. -/
def Obligations.LegacyFllClamped : Prop :=
  ∀ s : State, s.on .lfll = true → s.cfg.cqpsk = false → s.work.xs ≠ [] →
    ∃ t, exec .stageLfll s = .next t ∧ t.work.xs.length = s.work.xs.length ∧
      t.work.xs.getLast? = some t.lf.prev ∧
      F32.lt (F32.ofNat 4096) t.lf.freq = false ∧ F32.lt t.lf.freq (F32.ofInt (-4096)) = false ∧
      F32.lt (F32.ofNat 4096) t.lf.integ = false ∧ F32.lt t.lf.integ (F32.ofInt (-4096)) = false ∧
      (let advance := fun p : F32 => F32.wrap (F32.add p (F32.div (F32.mul s.lf.freq F32.pi) (F32.ofNat 32768)))
      let phase := fun m : Nat => advance^[m] s.lf.phase
      let y := fun m : Nat => t.work.xs.getD m C32.zero
      let acc :=
        C32.add (C32.mul (y 0) (C32.conj s.lf.prev))
          (C32.sum ((List.range (s.work.xs.length - 1)).map (fun m => C32.mul (y (m + 1)) (C32.conj (y m)))))
      let raw := F32.div (F32.mul (F32.atan2 acc.im acc.re) (F32.ofNat 16384)) F32.pi
      let deadband := F32.ofNat ((s.cfg.get .lfllDeadbandQ14).toNat % 65536)
      let u := F32.mul (F32.ofNat 2) (if F32.lt (F32.abs raw) deadband = true then F32.zero else raw)
      let top := F32.ofNat 4096
      let integ :=
        F32.clamp
          (F32.add (F32.sub s.lf.integ (F32.mul s.lf.integ (F32.ofRat 1 4096))) (F32.mul (s.cfg.real .lfllKi) u))
          (F32.neg top) top
      let d := F32.add (F32.mul (s.cfg.real .lfllKp) u) integ
      let slew := F32.ofNat ((s.cfg.get .lfllSlewQ15).toNat % 65536)
      let step := if (s.cfg.get .lfllSlewQ15).toNat % 65536 = 0 then d else F32.clamp d (F32.neg slew) slew
      (∀ (m : Nat) (z : C32), s.work.xs[m]? = some z →
        t.work.xs[m]? = some (C32.mul z ⟨F32.cos (F32.neg (phase m)), F32.sin (F32.neg (phase m))⟩)) ∧
        t.lf =
          { freq := F32.clamp (F32.add s.lf.freq step) (F32.neg top) top
            integ := integ
            phase := phase s.work.xs.length
            prev := y (s.work.xs.length - 1) })

/-- R396: the default `ATAN2_Q14` lies in −16384..16384 and is odd in y for y ≠ 0. It is 0 at (0, 0) and on the positive x
axis, 16384 (+π) on the negative x axis, 8192 on the positive y axis, 4096 and 12288 on the diagonals above the x axis, and at
six further points the rounded value of `atan2(y, x)·16384/π`. The values for zeros and infinities are the model's reading,
notes/assumptions/9.md; for a NaN the value is free, 10.md, within the range. -/
def Obligations.Atan2Q14Odd : Prop :=
  (∀ y x : F32, -16384 ≤ F32.atan2Q14 y x ∧ F32.atan2Q14 y x ≤ 16384) ∧
  (∀ y x : F32, y.isNan = false → x.isNan = false → y.isZero = false →
    F32.atan2Q14 (F32.neg y) x = -F32.atan2Q14 y x) ∧
  (∀ y x : F32, x.isNan = false → y.isZero = true →
    F32.atan2Q14 y x = if F32.lt x F32.zero = true then 16384 else 0) ∧
  (∀ y x : F32, x.isZero = true → F32.lt F32.zero y = true → F32.atan2Q14 y x = 8192) ∧
  (∀ y x : F32, F32.lt F32.zero y = true → F32.eqv y x = true → F32.atan2Q14 y x = 4096) ∧
  (∀ y x : F32, F32.lt F32.zero y = true → F32.eqv y (F32.neg x) = true → F32.atan2Q14 y x = 12288) ∧
  (∀ e ∈
      ([(1, 2, 2418), (2, 1, 5774), (3, 4, 3356), (5, 12, 2059), (1, -2, 13966), (7, -24, 14904)] :
        List (Int × Int × Int)),
    F32.atan2Q14 (F32.ofInt e.1) (F32.ofInt e.2.1) = e.2.2)

/-- R401, R113, R420: deemphasis and audio LPF on one sample of the real stream: `y + a·(x − y)`. A deemphasis whose
coefficient is 1, as DEEMPH_TAU_NFM_NS = 0 gives it, is the identity: the sample passes unchanged and is the new state. The
order of evaluation is the model's reading, notes/assumptions/7.md. -/
def Obligations.OnePoleSamples : Prop :=
  ∀ (s : State) (x : C32), s.work.xs = [x] → s.cfg.cqpsk = false →
    (s.on .deemph = true →
      let y := if F32.eqv s.de.a F32.one = true then x.re else F32.add s.de.y (F32.mul s.de.a (F32.sub x.re s.de.y))
      exec .stageDeemph s =
        .next { s with de := { s.de with y := y }, work := { s.work with xs := [⟨y, F32.zero⟩] } }) ∧
    (s.on .alpf = true →
      let y := F32.add s.al.y (F32.mul s.al.a (F32.sub x.re s.al.y))
      exec .stageAlpf s =
        .next { s with al := { s.al with y := y }, work := { s.work with xs := [⟨y, F32.zero⟩] } })

/-- R407: the channel LPF on one sample: the sum of the taps over the window, newest first, real on the FM family; the
sample enters the history. The order of evaluation is the model's reading, notes/assumptions/7.md. -/
def Obligations.ChannelLpfSample : Prop :=
  ∀ (s : State) (x : C32), s.on .chlpf = true → s.work.xs = [x] →
    let y := C32.sum (List.zipWith C32.scale s.ch.taps (x :: s.ch.h))
    exec .stageChlpf s =
      .next
        { s with
          ch := { s.ch with h := (x :: s.ch.h).take s.ch.h.length }
          work := { s.work with xs := [if s.cfg.cqpsk = true then y else ⟨y.re, F32.zero⟩] } }

/-- R435, R430: the resampler on one sample, reduced factors L ≠ M: with the accumulator `acc` it emits `c = ⌈(L −
acc)/M⌉` outputs (none where `acc ≥ L`), the j-th over the K taps of phase `acc + j·M`, and leaves `acc + c·M − L`. The
order of evaluation is the model's reading, notes/assumptions/7.md. -/
def Obligations.ResamplerSample : Prop :=
  ∀ (s : State) (x : C32), s.on .resamp = true → s.cfg.ratio.1 ≠ s.cfg.ratio.2 → 0 < s.cfg.ratio.2 →
    s.work.xs = [x] →
    let l := s.cfg.ratio.1
    let m := s.cfg.ratio.2
    let k := (s.cfg.get .rsK).toNat % 32
    let h := (x :: s.rs.h).take s.rs.h.length
    let c := (l - s.rs.acc + m - 1) / m
    exec .stageResamp s =
      .next
        { s with
          rs := { s.rs with h := h, acc := s.rs.acc + c * m - l }
          work :=
            { s.work with
              xs :=
                (List.range c).map (fun j =>
                  let y :=
                    C32.sum (List.zipWith C32.scale ((s.rs.taps.drop ((s.rs.acc + j * m) * k)).take k) h)
                  if s.cfg.cqpsk = true then y else ⟨y.re, F32.zero⟩) } }

/-! ## Symbol chain -/

/-- R450, R455, R456, R458, R459, R460, R461: one symbol on the FM family, first with the scanner off. The dibit is that of
the four-level decision with the fields before the rolling update; one `SYM_OUT` entry carries it with the slicer input and
the old `symcount`; value, dibit and reliability enter the history; nothing else changes but the slicer. Where the sizes are
legal and no symbol of the window is a NaN, the window's greatest and least value enter the two buffers at `midx`, and `max`
and `min` become the means of the entries that count. The thresholds afterwards are those of R455. With the scanner on the
symbol does the same, and then STAGE.SCAN runs on it (R458, R512). The reliability is `floor(255·m/h)` up to 255, m the least
margin and h the spacing, and 0 where h is not above 0. The order of evaluation is the model's reading,
notes/assumptions/7.md; the exact floor, 8.md; margins and spacings that are not finite, 10.md; the real part of a symbol
that is not real, 20.md. -/
def Obligations.SliceSymbolFm : Prop :=
  (∀ (s : State) (z : C32), s.on .slice = true → s.cfg.cqpsk = false → s.on .scan = false → s.work.xs = [z] →
    let x := F32.mul (s.cfg.real .symScale) z.re
    let d : Dibit :=
      if F32.le s.sl.center x = true then (if F32.lt s.sl.umid x = true then 1#2 else 0#2)
      else (if F32.lt x s.sl.lmid = true then 3#2 else 2#2)
    let ms := (s.cfg.get .slMsize).toNat % 2048
    let ss := (s.cfg.get .slSsize).toNat % 4096
    ∃ t, exec .stageSlice s = .next t ∧
      t =
        { s with
          sl := t.sl
          free := t.free
          symcount := s.symcount + 1
          sh :=
            ⟨s.sh.v.set s.sh.w x, s.sh.d.set s.sh.w d, s.sh.r.set s.sh.w (relFm Params.default s.sl x), (s.sh.w + 1) % 2048,
              min (s.sh.n + 1) 2048⟩
          ports := { s.ports with symOut := s.ports.symOut ++ [⟨d, relFm Params.default s.sl x, x, s.symcount⟩] }
          work := { s.work with xs := [], nsym := s.work.nsym + 1, d := d } } ∧
      t.sl.center = F32.div (F32.add t.sl.max t.sl.min) (F32.ofNat 2) ∧
      t.sl.umid = F32.add t.sl.center (F32.mul (F32.ofRat 625 1000) (F32.sub t.sl.max t.sl.center)) ∧
      t.sl.lmid = F32.add t.sl.center (F32.mul (F32.ofRat 625 1000) (F32.sub t.sl.min t.sl.center)) ∧
      t.sl.maxref = F32.mul (F32.ofRat 80 100) t.sl.max ∧
      t.sl.minref = F32.mul (F32.ofRat 80 100) t.sl.min ∧
      t.sl.fill = min (s.sl.fill + 1) ms ∧
      t.sl.midx = ((if ms ≤ s.sl.midx then 0 else s.sl.midx) + 1) % ms ∧
      (let win :=
        (List.range (min ss t.sh.n)).map (fun i => t.sh.v.getD ((t.sh.w + 2047 - i) % 2048) F32.zero)
      let i := if ms ≤ s.sl.midx then 0 else s.sl.midx
      1 ≤ ss → 1 ≤ ms → ms ≤ 1024 → s.sl.maxbuf.length = 1024 → s.sl.minbuf.length = 1024 →
        (∀ v ∈ win, v.isNan = false) →
        ∃ hi ∈ win, ∃ lo ∈ win, (∀ v ∈ win, F32.lt hi v = false) ∧ (∀ v ∈ win, F32.lt v lo = false) ∧
          t.sl.maxbuf = s.sl.maxbuf.set i hi ∧ t.sl.minbuf = s.sl.minbuf.set i lo ∧
          t.sl.max = F32.div (F32.sum (t.sl.maxbuf.take t.sl.fill)) (F32.ofNat t.sl.fill) ∧
          t.sl.min = F32.div (F32.sum (t.sl.minbuf.take t.sl.fill)) (F32.ofNat t.sl.fill) ∧ t.free = s.free)) ∧
  (∀ (s : State) (z : C32), s.on .slice = true → s.cfg.cqpsk = false → s.on .scan = true → s.work.xs = [z] →
    ∃ u v : State,
      exec .stageSlice { s with cfg := s.cfg.set .stageEn (s.cfg.get .stageEn &&& 0xFFF7FFFF#32) } = .next u ∧
        exec .stageScan { u with cfg := s.cfg } = .next v ∧ exec .stageSlice s = .next v) ∧
  (∀ (sl : Slicer F32) (x : F32),
    let margins := [F32.abs (F32.sub x sl.center), F32.abs (F32.sub x sl.umid), F32.abs (F32.sub x sl.lmid)]
    let h := F32.sub sl.umid sl.center
    (F32.le h F32.zero = true → relFm Params.default sl x = 0#8) ∧
      (F32.lt F32.zero h = true → h.isFinite = true → ∀ m ∈ margins, (∀ a ∈ margins, a.isNan = false) →
        (∀ a ∈ margins, F32.lt a m = false) → (F32.mul (F32.ofNat 255) m).isFinite = true →
        relFm Params.default sl x = BitVec.ofNat 8 (min 255 ((F32.mul (F32.ofNat 255) m).units.toNat / h.units.toNat))))

/-- R345, R456, R458, R460, R461: one symbol on the CQPSK path, first with the scanner off: the extracted phase less `center`
is decided against 0 and ±2, a locked permutation corrects the dibit, one `SYM_OUT` entry leaves, and the rolling update does
not run: the slicer fields are kept. With the scanner on the symbol does the same, and then STAGE.SCAN runs on it. The
reliability is `floor(255·m/2)` up to 255, m the least margin to 0 and ±2. The order of evaluation is the model's reading,
notes/assumptions/7.md; the exact floor, 8.md. -/
def Obligations.SliceSymbolCqpsk : Prop :=
  (∀ (s : State) (z : C32), s.on .slice = true → s.cfg.cqpsk = true → s.on .scan = false → s.work.xs = [z] →
    let x := F32.ofRat (F32.atan2Q14 z.im z.re) 4096
    let v := F32.sub x s.sl.center
    let d : Dibit :=
      if F32.le F32.zero v = true then (if F32.lt (F32.ofNat 2) v = true then 1#2 else 0#2)
      else (if F32.lt v (F32.ofInt (-2)) = true then 3#2 else 2#2)
    let dout := if s.on .perm = true ∧ s.permLock = true then s.perm.apply d else d
    exec .stageSlice s =
      .next
        { s with
          symcount := s.symcount + 1
          sh :=
            ⟨s.sh.v.set s.sh.w x, s.sh.d.set s.sh.w dout, s.sh.r.set s.sh.w (relCq Params.default s.sl x),
              (s.sh.w + 1) % 2048, min (s.sh.n + 1) 2048⟩
          ports := { s.ports with symOut := s.ports.symOut ++ [⟨dout, relCq Params.default s.sl x, x, s.symcount⟩] }
          work := { s.work with xs := [], nsym := s.work.nsym + 1, d := d } }) ∧
  (∀ (s : State) (z : C32), s.on .slice = true → s.cfg.cqpsk = true → s.on .scan = true → s.work.xs = [z] →
    ∃ u v : State,
      exec .stageSlice { s with cfg := s.cfg.set .stageEn (s.cfg.get .stageEn &&& 0xFFF7FFFF#32) } = .next u ∧
        exec .stageScan { u with cfg := s.cfg } = .next v ∧ exec .stageSlice s = .next v) ∧
  (∀ (sl : Slicer F32) (x : F32),
    let v := F32.sub x sl.center
    let margins := [F32.abs v, F32.abs (F32.sub v (F32.ofNat 2)), F32.abs (F32.add v (F32.ofNat 2))]
    ∀ m ∈ margins, (∀ a ∈ margins, a.isNan = false) → (∀ a ∈ margins, F32.lt a m = false) →
      (F32.mul (F32.ofNat 255) m).isFinite = true →
      relCq Params.default sl x = BitVec.ofNat 8 (min 255 ((F32.mul (F32.ofNat 255) m).units.toNat / 2 ^ 150)))

/-- R512, R505, R506, R158: one scanner step. The raw dibit enters the shift register, the permutation search runs. An entry
matches where its protocol is enabled, its pattern is given, it exists in the polarity of SYNC_POL, and the last dibits of the
register, corrected by a locked permutation, differ from the pattern in that polarity in at most SYNC_TOL places. With no
match no event leaves and the sync record keeps its type, last type and position. The first match in scan order sets `type` to
its ID, `last` to the old type and `pos` to the number of the last symbol; then resample-on-sync (a DMR entry with DMR_ROS on)
or the warm-start runs, one event carries the result, and the register must fill anew. All this for every `SYNC_PATTERN` and
`SYNC_LEN` (R8): an OPEN row whose pattern is supplied matches like any other. The default's rows whose patterns are given are
those of R505. The parameters as an argument: notes/assumptions/21.md and 24.md; the `work` fields and the stages they run as
instructions: 2.md. -/
def Obligations.ScannerStep : Prop :=
  (∀ s : State, s.on .scan = true →
    ∃ t, exec .stageScan s = .next t ∧ t.sync.sr = (s.work.d :: s.sync.sr).take s.sync.sr.length ∧
      t.symcount = s.symcount ∧ t.ports.symOut = s.ports.symOut ∧ t.csr = s.csr ∧ t.cfg = s.cfg ∧
      ((t.ports.syncOut = s.ports.syncOut ∧ t.sync.type = s.sync.type ∧ t.sync.last = s.sync.last ∧
          t.sync.pos = s.sync.pos ∧ t.sync.srn = min (s.sync.srn + 1) 64 ∧ t.sl = s.sl) ∨
        ∃ (e : SyncEntry) (p : List Dibit) (ev : SyncEvent), e ∈ Params.default.syncTable ∧ e.pattern = some p ∧
          p.length ≤ min (s.sync.srn + 1) 64 ∧
          (s.cfg.get .syncProtoEn).getLsbD e.proto = true ∧
          (if (s.cfg.get .syncPol).getLsbD e.proto = true then e.invertedId = some ev.synctype
            else e.normalId = ev.synctype) ∧
          t.ports.syncOut = s.ports.syncOut ++ [ev] ∧ t.sync.type = ev.synctype ∧ t.sync.last = s.sync.type ∧
          t.sync.pos = s.symcount - 1 ∧ ev.pos = s.symcount - 1 ∧ t.sync.srn = 0)) ∧
  (∀ (R : Type) (p : Params R) (s : State.Of R), s.on .scan = true → s.sync.sr.length = 64 →
    ∃ u : State.Of R,
      execWith p .stagePerm
          { s with sync := { s.sync with sr := (s.work.d :: s.sync.sr).take 64, srn := min (s.sync.srn + 1) 64 } } =
        .next u ∧
      (let permOn := s.cfg.cqpsk && s.on .perm
      let inverted := fun e : SyncEntry => (s.cfg.get .syncPol).getLsbD e.proto
      let differs := fun (e : SyncEntry) (w : List Dibit) (i : Nat) =>
        (if permOn = true ∧ u.permLock = true then u.perm.apply (u.sync.sr.getD (w.length - 1 - i) 0#2)
          else u.sync.sr.getD (w.length - 1 - i) 0#2) ≠
        (if inverted e = true then w.getD i 0#2 ^^^ 2#2 else w.getD i 0#2)
      let matching := fun e : SyncEntry =>
        ∃ w, e.pattern = some w ∧ (s.cfg.get .syncProtoEn).getLsbD e.proto = true ∧
          (inverted e = true → e.invertedId ≠ none) ∧ w.length ≤ u.sync.srn ∧
          ((List.range w.length).filter (fun i => decide (differs e w i))).length ≤ (s.cfg.get .syncTol).toNat % 256
      ((∀ e ∈ p.syncTable, ¬ matching e) → execWith p .stageScan s = .next u) ∧
        (∀ (before after : List SyncEntry) (e : SyncEntry), p.syncTable = before ++ e :: after → matching e →
          (∀ f ∈ before, ¬ matching f) →
          let id := if inverted e = true then e.invertedId.getD e.normalId else e.normalId
          ∃ v : State.Of R,
            execWith p (if e.proto = 4 ∧ s.on .dmrRos = true then .stageDmrRos else .stageWs)
                { u with
                  sync := { u.sync with type := id, last := s.sync.type, pos := s.symcount - 1 }
                  work := { s.work with syncLen := e.listedLen.getD (e.pattern.getD []).length, ws := 7#3, ros := none } } =
              .next v ∧
            execWith p .stageScan s =
              .next
                { v with
                  sync := { v.sync with srn := 0 }
                  ports :=
                    { v.ports with
                      syncOut := s.ports.syncOut ++
                        [⟨id, s.symcount - 1, v.work.ws,
                          if permOn = true then u.perm.p3 ++ u.perm.p2 ++ u.perm.p1 ++ u.perm.p0 else 0#8,
                          v.work.ros⟩] } }))) ∧
  Params.default.syncTable.filterMap (fun e =>
      e.pattern.map (fun p =>
        (e.proto, e.normalId, e.invertedId, p.length, p.foldl (fun a d => 4 * a + d.toNat) 0, e.syncLen))) =
    [(0, 0, some 1, 24, 0x5575F5FF77FF, 24), (3, 8, some 9, 8, 0xFF5D, 8), (3, 16, some 17, 8, 0x55F7, 8),
      (3, 76, some 77, 8, 0xDF55, 8), (3, 86, some 87, 8, 0x75FF, 8), (3, 98, some 99, 8, 0x7777, 8),
      (4, 12, some 11, 24, 0x755FD7DF75F7, 24), (4, 10, some 13, 24, 0xDFF57D75DF5D, 24),
      (4, 32, none, 24, 0x7F7D5DD57DFD, 24), (4, 33, none, 24, 0xD5D7F77FD757, 24),
      (4, 34, none, 24, 0x77D55F7DFD77, 24), (4, 32, none, 24, 0x5D577F7757FF, 24),
      (4, 33, none, 24, 0xF7FDD5DDFD55, 24), (4, 32, none, 24, 0x7DFFD5F55D5F, 24),
      (4, 33, none, 24, 0xD7557F5FF7F5, 24), (9, 35, some 36, 20, 0x575D57F7FF, 20)]

/-- R470, R475, R480, R512: the warm-start and the resample-on-sync of a detection. The warm-start has the detection's
length n; its result r is recorded and goes into the event: NO_HISTORY for n = 0 or too few symbols, DEGENERATE where a class
is empty or the class means mp and mn are less than 1.0 apart, else OK. OK leaves on the FM family the whole warm slicer, on
the CQPSK path a new `center` and its derived fields; any other result leaves the slicer. Resample-on-sync with fewer than 24
symbols leaves 7 in the event and runs nothing; else it puts its best pattern and up to 66 dibits there, and, no score being a
NaN, leaves slicer, history, DMR equalizer and result as the command `DMR_ROS` does. That the event's fields are `work.ws` and
`work.ros`, and stages as instructions: the model's reading, notes/assumptions/2.md; the order of evaluation, 7.md. -/
def Obligations.DetectionStages : Prop :=
  (∀ s : State, s.on .ws = true →
    let n := s.work.syncLen
    let win := (List.range n).map (fun i => s.sh.v.getD ((s.sh.w + 2047 - i) % 2048) F32.zero)
    let pos := win.filter (fun x => F32.lt F32.zero x)
    let neg := win.filter (fun x => F32.lt x F32.zero)
    let mp := F32.div (F32.sum pos) (F32.ofNat pos.length)
    let mn := F32.div (F32.sum neg) (F32.ofNat neg.length)
    let ms := (s.cfg.get .slMsize).toNat % 2048
    let r : BitVec 3 :=
      if n = 0 ∨ s.sh.n < n then 2#3
      else if pos = [] ∨ neg = [] ∨ F32.lt (F32.sub mp mn) F32.one = true then 3#3
      else 0#3
    let center := F32.div (F32.add mp mn) (F32.ofNat 2)
    let hi := if s.cfg.cqpsk = true then s.sl.max else mp
    let lo := if s.cfg.cqpsk = true then s.sl.min else mn
    let warm : Slicer F32 :=
      { s.sl with
        max := hi, min := lo, center := center
        umid := F32.add center (F32.mul (F32.ofRat 625 1000) (F32.sub hi center))
        lmid := F32.add center (F32.mul (F32.ofRat 625 1000) (F32.sub lo center))
        maxref := F32.mul (F32.ofRat 80 100) hi
        minref := F32.mul (F32.ofRat 80 100) lo }
    let filled : Slicer F32 :=
      { warm with
        maxbuf := List.replicate (min ms s.sl.maxbuf.length) mp ++ s.sl.maxbuf.drop ms
        minbuf := List.replicate (min ms s.sl.minbuf.length) mn ++ s.sl.minbuf.drop ms
        midx := 0, fill := ms }
    exec .stageWs s =
      .next
        { s with
          sl := if r ≠ 0#3 then s.sl else if s.cfg.cqpsk = true then warm else filled
          lastWs := r
          work := { s.work with ws := r } }) ∧
  (∀ s : State, s.on .dmrRos = true → s.sh.n < 24 →
    exec .stageDmrRos s = .next { s with work := { s.work with ws := 7#3, ros := none } }) ∧
  (∀ s : State, s.on .dmrRos = true → 24 ≤ s.sh.n →
    ∃ (t : State) (best : Nat) (dib : List (Dibit × Rel)), exec .stageDmrRos s = .next t ∧ best < 8 ∧
      dib.length = min 66 (s.sh.n - 24) ∧ t.dmr.best = best ∧ t.dmr.bvalid = true ∧ t.dmr.init = true ∧
      t.sh.v = s.sh.v ∧
      t =
        { s with
          sl := t.sl, sh := t.sh, dmr := t.dmr, lastWs := t.lastWs, free := t.free
          work := { s.work with ws := t.lastWs, ros := some ⟨best, dib⟩ } } ∧
      ((∀ p ∈ Params.default.dmrPatterns, (dmrScore .binary32 (syncSymbols .binary32 s.sh) p).isNan = false) →
        ∃ (u : State) (ev : SyncEvent), exec .dmrRos { s with csr := s.cfg } = .next u ∧
          u.ports.syncOut = s.ports.syncOut ++ [ev] ∧ ev.ros = some ⟨best, dib⟩ ∧ ev.ws = t.lastWs ∧
          t.sl = u.sl ∧ t.sh = u.sh ∧ t.dmr = u.dmr ∧ t.lastWs = u.lastWs ∧ t.free = s.free))

/-- R520, R521: one step of the permutation search. The distance of a permutation is the number of places i in 0..23 at which
the permuted dibit of age 23 − i differs from dibit i of the expected sync, the P25P1 pattern, each dibit XOR 2 where
SYNC_POL bit 0 is 1. With fewer than 24 dibits nothing happens. In a register of 64 places, as `State.inv` has it, a locked
window within PERM_THR holds; else the first of the 24 candidates, the four rotations and then the others in lexicographic
order, within PERM_THR is locked; with none the permutation and the lock are kept. -/
def Obligations.PermutationSearchStep : Prop :=
  ∀ s : State, s.cfg.cqpsk = true → s.on .perm = true →
    let thr := (s.cfg.get .permThr).toNat % 256
    let expected := fun i : Nat =>
      let d : Dibit := BitVec.ofNat 2 (0x5575F5FF77FF / 4 ^ (23 - i))
      if (s.cfg.get .syncPol).getLsbD 0 = true then d ^^^ 2#2 else d
    let dist := fun p : Perm =>
      ((List.range 24).filter (fun i =>
        decide ([p.p0, p.p1, p.p2, p.p3].getD (s.sync.sr.getD (23 - i) 0#2).toNat 0#2 ≠ expected i))).length
    let candidates : List Perm :=
      ([(0, 1, 2, 3), (1, 3, 0, 2), (3, 2, 1, 0), (2, 0, 3, 1),
        (0, 1, 3, 2), (0, 2, 1, 3), (0, 2, 3, 1), (0, 3, 1, 2), (0, 3, 2, 1),
        (1, 0, 2, 3), (1, 0, 3, 2), (1, 2, 0, 3), (1, 2, 3, 0), (1, 3, 2, 0),
        (2, 0, 1, 3), (2, 1, 0, 3), (2, 1, 3, 0), (2, 3, 0, 1), (2, 3, 1, 0),
        (3, 0, 1, 2), (3, 0, 2, 1), (3, 1, 0, 2), (3, 1, 2, 0), (3, 2, 0, 1)] : List (Nat × Nat × Nat × Nat)).map
        (fun c => ⟨BitVec.ofNat 2 c.1, BitVec.ofNat 2 c.2.1, BitVec.ofNat 2 c.2.2.1, BitVec.ofNat 2 c.2.2.2⟩)
    (s.sync.srn < 24 → exec .stagePerm s = .next s) ∧
    (s.sync.sr.length = 64 →
      (s.permLock = true → dist s.perm ≤ thr → exec .stagePerm s = .next s) ∧
      (24 ≤ s.sync.srn → s.permLock = false ∨ thr < dist s.perm →
        (∀ (p : Perm) (before after : List Perm), candidates = before ++ p :: after → dist p ≤ thr →
          (∀ q ∈ before, thr < dist q) → exec .stagePerm s = .next { s with perm := p, permLock := true }) ∧
        ((∀ q ∈ candidates, thr < dist q) → exec .stagePerm s = .next s)))

/-! ## The whole machine -/

/-- R590: the state after power-on satisfies the invariant `State.inv`. The lengths of the designed sets at reset are the
model's choice, notes/assumptions/12.md. -/
def Obligations.InvariantAtReset : Prop := State.reset.inv = true

/-- R45 to R65, R50, R58, R59, R71, R143, R146, R193, R503, R550: every step keeps the invariant `State.inv`: CSRs legal with
reserved bits 0, arrays of their sizes, those of the band-edge FLL, the channel LPF and the resampler of the sizes of their
designed sets, indices and counters in range (the resampler's accumulator in 0..M − 1), thresholds derived, IDs of the closed
set, `p` a permutation, bounded ports within capacity. The sizes before a first design are the model's choice,
notes/assumptions/12.md. -/
def Obligations.StepKeepsInvariant : Prop :=
  ∀ s t : State, s.inv = true → step s = .next t → t.inv = true

/-- R158: the sync type changes only at a `RESET`, or in a `PROC` that pushes a sync event. -/
def Obligations.SynctypeStable : Prop :=
  ∀ s t : State, step s = .next t → t.sync.type ≠ s.sync.type →
    decode s.ports.cmd = .instr .reset ∨
      (decode s.ports.cmd = .instr .proc ∧ s.ports.syncOut.length < t.ports.syncOut.length)

/-- R127, R521, R318: what clears a sticky flag. ERR falls only by a write of STATUS with bit 0 set or by `RESET`; the DMR
equalizer's `init` only by `RESET`; the permutation lock and the Costas `init` only by `RESET` or by a `PROC` that applies a
pending retune reset. -/
def Obligations.FlagsClearedOnlyAsStated : Prop :=
  ∀ s t : State, step s = .next t →
    (s.err = true → t.err = false →
      decode s.ports.cmd = .instr .reset ∨
        ∃ d : Word, decode s.ports.cmd = .instr (.csrw 0x001#12 d) ∧ d.getLsbD 0 = true) ∧
    (s.dmr.init = true → t.dmr.init = false → decode s.ports.cmd = .instr .reset) ∧
    (s.permLock = true → t.permLock = false →
      decode s.ports.cmd = .instr .reset ∨ (decode s.ports.cmd = .instr .proc ∧ s.rr = true)) ∧
    (s.cos.init = true → t.cos.init = false →
      decode s.ports.cmd = .instr .reset ∨ (decode s.ports.cmd = .instr .proc ∧ s.rr = true))

/-- R146, R155, R156, R190: every step either waits and changes nothing, or consumes one or two words of `CMD` and answers
one response word, with one data word after it only for a `CSRR` that succeeds. Symbols and sync events are only appended and
samples only taken from the old end. Where the ports are within their capacity, audio entries are appended, by a `PROC` in
MODE 0 only, and all but the newest 65535 are lost. -/
def Obligations.OneResponsePerCommandInOrder : Prop :=
  ∀ s t : State, step s = .next t →
    t = s ∨
      ((∃ n, (n = 1 ∨ n = 2) ∧ t.ports.cmd = s.ports.cmd.drop n) ∧
        (∃ (code : BitVec 8) (payload : BitVec 24) (data : List Word),
          t.ports.resp = s.ports.resp ++ (code ++ payload) :: data ∧ data.length ≤ 1 ∧ code.toNat ≤ 6 ∧
            (code ≠ 0#8 → payload = 0#24) ∧
            (data ≠ [] → code = 0#8 ∧ ∃ a, decode s.ports.cmd = .instr (.csrr a))) ∧
        s.ports.symOut <+: t.ports.symOut ∧ s.ports.syncOut <+: t.ports.syncOut ∧
        t.ports.iqIn <:+ s.ports.iqIn ∧
        (s.ports.wf = true →
          ∃ pushed, t.ports.audioOut =
              (s.ports.audioOut ++ pushed).drop ((s.ports.audioOut ++ pushed).length - 65535) ∧
            (pushed ≠ [] → decode s.ports.cmd = .instr .proc ∧ (s.csr.get .mode).toNat % 8 = 0)))

/-- R12: REAL sum, difference, product and quotient are rounded to nearest, ties to even, and the square root to nearest. No
finite REAL z is nearer to the exact result of an operation on finite REALs than a finite result r, and where a z of another
value is as near, the low fraction bit of r is 0. (Values are whole numbers of units of 2^-149; the exact result is `num/den`
of them. No root lies midway between two REALs.) These operations are those of the default parameters. -/
def Obligations.AdditionRoundsToNearest : Prop :=
  (let nearestEven := fun (r : F32) (num den : Int) =>
    r.isFinite = true → ∀ z : F32, z.isFinite = true →
      (r.units * den - num).natAbs ≤ (z.units * den - num).natAbs ∧
        ((r.units * den - num).natAbs = (z.units * den - num).natAbs → z.units ≠ r.units → r.bits.getLsbD 0 = false)
  ∀ x y : F32, x.isFinite = true → y.isFinite = true →
    nearestEven (F32.add x y) (x.units + y.units) 1 ∧
      nearestEven (F32.sub x y) (x.units - y.units) 1 ∧
      nearestEven (F32.mul x y) (x.units * y.units) (2 ^ 149) ∧
      (y.units ≠ 0 → nearestEven (F32.div x y) (x.units * 2 ^ 149) y.units)) ∧
  (∀ x : F32, x.isFinite = true → 0 ≤ x.units →
    let r := (F32.sqrt x).units
    let exact4 := 4 * (x.units * 2 ^ 149)
    (F32.sqrt x).isFinite = true ∧ 0 ≤ r ∧
      ∀ z : F32, z.isFinite = true →
        (r < z.units → exact4 ≤ (r + z.units) ^ 2) ∧ (z.units < r → 0 ≤ z.units → (r + z.units) ^ 2 ≤ exact4)) ∧
  (Params.default.real.add = F32.add ∧ Params.default.real.sub = F32.sub ∧ Params.default.real.mul = F32.mul ∧
    Params.default.real.div = F32.div ∧ Params.default.real.sqrt = F32.sqrt)
end

