-- ==== Sys2Proof/Laws/Codec.lean ====
section
/-! SUPPORT. The fields of the words the encoder builds (R181, R182), and the opcode map both ways (R184). -/

namespace Sys2Proof

@[simp] theorem opField_wordC (o : Op) (imm : BitVec 16) : opField (wordC o imm) = o.code := by
  apply BitVec.eq_of_getLsbD_eq
  intro i hi
  simp only [opField, wordC, BitVec.getLsbD_extractLsb', BitVec.getLsbD_append]
  simp [hi, show ¬ 24 + i < 16 by omega, show ¬ 24 + i - 16 < 8 by omega, show 24 + i - 16 - 8 = i by omega]

@[simp] theorem subField_wordC (o : Op) (imm : BitVec 16) : subField (wordC o imm) = 0#8 := by
  apply BitVec.eq_of_getLsbD_eq
  intro i hi
  simp only [subField, wordC, BitVec.getLsbD_extractLsb', BitVec.getLsbD_append]
  simp only [show ¬ 16 + i < 16 by omega, show 16 + i - 16 < 8 by omega]
  simp

@[simp] theorem immField_wordC (o : Op) (imm : BitVec 16) : immField (wordC o imm) = imm := by
  apply BitVec.eq_of_getLsbD_eq
  intro i hi
  simp only [immField, wordC, BitVec.getLsbD_extractLsb', BitVec.getLsbD_append]
  simp [hi]

@[simp] theorem opField_wordR (o : Op) (a : BitVec 12) : opField (wordR o a) = o.code := by
  apply BitVec.eq_of_getLsbD_eq
  intro i hi
  simp only [opField, wordR, BitVec.getLsbD_extractLsb', BitVec.getLsbD_append]
  simp [hi, show ¬ 24 + i < 12 by omega, show ¬ 24 + i - 12 < 12 by omega, show 24 + i - 12 - 12 = i by omega]

@[simp] theorem csrField_wordR (o : Op) (a : BitVec 12) : csrField (wordR o a) = a := by
  apply BitVec.eq_of_getLsbD_eq
  intro i hi
  simp only [csrField, wordR, BitVec.getLsbD_extractLsb', BitVec.getLsbD_append]
  simp [hi, show ¬ 12 + i < 12 by omega, show 12 + i - 12 = i by omega]

@[simp] theorem zField_wordR (o : Op) (a : BitVec 12) : zField (wordR o a) = 0#12 := by
  apply BitVec.eq_of_getLsbD_eq
  intro i hi
  simp only [zField, wordR, BitVec.getLsbD_extractLsb', BitVec.getLsbD_append]
  simp [hi]

/-- An opcode is found under its own code (R184). -/
@[simp] theorem Op.ofCode_code (o : Op) : Op.ofCode o.code = some o := by
  cases o <;> decide

/-- Only an opcode of the map is found, under its own code (R184). -/
theorem Op.code_of_ofCode {b : BitVec 8} {o : Op} (h : Op.ofCode b = some o) : o.code = b := by
  simpa using List.find?_some h

end Sys2Proof
end

