-- ==== Sys2Proof/Laws/Format.lean ====
section
/-! SUPPORT. The default format by its operations. `simp` and `dsimp` reduce a field of `RealFormat.binary32` or
`Params.default` to the operation it is; here is the rest that shows in goals, and sums of complex values by parts. -/

namespace Sys2Proof

@[simp] theorem RealFormat.binary32_isZero (x : F32) : RealFormat.binary32.isZero x = x.isZero := rfl

@[simp] theorem RealFormat.binary32_czero : RealFormat.binary32.czero = C32.zero := rfl

@[simp] theorem RealFormat.binary32_ofReal (r : F32) : RealFormat.binary32.ofReal r = C32.ofReal r := rfl

/-- The sum of complex values is the pair of the sums of their parts. -/
theorem RealFormat.csum_parts {R : Type} (F : RealFormat R) (l : List (Cplx R)) :
    F.csum l = ⟨F.sum (l.map (fun z => z.re)), F.sum (l.map (fun z => z.im))⟩ := by
  have h (as : List (Cplx R)) (a : Cplx R) :
      as.foldl F.cadd a = ⟨(as.map (fun z => z.re)).foldl F.add a.re, (as.map (fun z => z.im)).foldl F.add a.im⟩ := by
    induction as generalizing a with
    | nil => rfl
    | cons b as ih => simp [ih, RealFormat.cadd]
  cases l with
  | nil => rfl
  | cons a as => exact h as a

end Sys2Proof
end

