-- ==== Sys2Proof/Laws/State.lean ====
section
/-! SUPPORT. One lemma per field per update of the state, each true by unfolding, so that no later proof unfolds a record
update; and the read-after-write lemmas of the CSR file. -/

namespace Sys2Proof.Machine

variable {R : Type}

/-! ### `State.respond` -/

@[simp] theorem State.respond_csr (s : State.Of R) (n : Nat) (st : Status) (p : BitVec 24) (d : List Word) : (s.respond n st p d).csr = s.csr := rfl
@[simp] theorem State.respond_cfg (s : State.Of R) (n : Nat) (st : Status) (p : BitVec 24) (d : List Word) : (s.respond n st p d).cfg = s.cfg := rfl
@[simp] theorem State.respond_fs4n (s : State.Of R) (n : Nat) (st : Status) (p : BitVec 24) (d : List Word) : (s.respond n st p d).fs4n = s.fs4n := rfl
@[simp] theorem State.respond_hb (s : State.Of R) (n : Nat) (st : Status) (p : BitVec 24) (d : List Word) : (s.respond n st p d).hb = s.hb := rfl
@[simp] theorem State.respond_dc (s : State.Of R) (n : Nat) (st : Status) (p : BitVec 24) (d : List Word) : (s.respond n st p d).dc = s.dc := rfl
@[simp] theorem State.respond_agc (s : State.Of R) (n : Nat) (st : Status) (p : BitVec 24) (d : List Word) : (s.respond n st p d).agc = s.agc := rfl
@[simp] theorem State.respond_iqb (s : State.Of R) (n : Nat) (st : Status) (p : BitVec 24) (d : List Word) : (s.respond n st p d).iqb = s.iqb := rfl
@[simp] theorem State.respond_be (s : State.Of R) (n : Nat) (st : Status) (p : BitVec 24) (d : List Word) : (s.respond n st p d).be = s.be := rfl
@[simp] theorem State.respond_cos (s : State.Of R) (n : Nat) (st : Status) (p : BitVec 24) (d : List Word) : (s.respond n st p d).cos = s.cos := rfl
@[simp] theorem State.respond_ted (s : State.Of R) (n : Nat) (st : Status) (p : BitVec 24) (d : List Word) : (s.respond n st p d).ted = s.ted := rfl
@[simp] theorem State.respond_diffPrev (s : State.Of R) (n : Nat) (st : Status) (p : BitVec 24) (d : List Word) : (s.respond n st p d).diffPrev = s.diffPrev := rfl
@[simp] theorem State.respond_eq (s : State.Of R) (n : Nat) (st : Status) (p : BitVec 24) (d : List Word) : (s.respond n st p d).eq = s.eq := rfl
@[simp] theorem State.respond_lf (s : State.Of R) (n : Nat) (st : Status) (p : BitVec 24) (d : List Word) : (s.respond n st p d).lf = s.lf := rfl
@[simp] theorem State.respond_discPrev (s : State.Of R) (n : Nat) (st : Status) (p : BitVec 24) (d : List Word) : (s.respond n st p d).discPrev = s.discPrev := rfl
@[simp] theorem State.respond_de (s : State.Of R) (n : Nat) (st : Status) (p : BitVec 24) (d : List Word) : (s.respond n st p d).de = s.de := rfl
@[simp] theorem State.respond_al (s : State.Of R) (n : Nat) (st : Status) (p : BitVec 24) (d : List Word) : (s.respond n st p d).al = s.al := rfl
@[simp] theorem State.respond_ch (s : State.Of R) (n : Nat) (st : Status) (p : BitVec 24) (d : List Word) : (s.respond n st p d).ch = s.ch := rfl
@[simp] theorem State.respond_rs (s : State.Of R) (n : Nat) (st : Status) (p : BitVec 24) (d : List Word) : (s.respond n st p d).rs = s.rs := rfl
@[simp] theorem State.respond_sl (s : State.Of R) (n : Nat) (st : Status) (p : BitVec 24) (d : List Word) : (s.respond n st p d).sl = s.sl := rfl
@[simp] theorem State.respond_sh (s : State.Of R) (n : Nat) (st : Status) (p : BitVec 24) (d : List Word) : (s.respond n st p d).sh = s.sh := rfl
@[simp] theorem State.respond_sync (s : State.Of R) (n : Nat) (st : Status) (p : BitVec 24) (d : List Word) : (s.respond n st p d).sync = s.sync := rfl
@[simp] theorem State.respond_perm (s : State.Of R) (n : Nat) (st : Status) (p : BitVec 24) (d : List Word) : (s.respond n st p d).perm = s.perm := rfl
@[simp] theorem State.respond_permLock (s : State.Of R) (n : Nat) (st : Status) (p : BitVec 24) (d : List Word) : (s.respond n st p d).permLock = s.permLock := rfl
@[simp] theorem State.respond_dmr (s : State.Of R) (n : Nat) (st : Status) (p : BitVec 24) (d : List Word) : (s.respond n st p d).dmr = s.dmr := rfl
@[simp] theorem State.respond_symcount (s : State.Of R) (n : Nat) (st : Status) (p : BitVec 24) (d : List Word) : (s.respond n st p d).symcount = s.symcount := rfl
@[simp] theorem State.respond_err (s : State.Of R) (n : Nat) (st : Status) (p : BitVec 24) (d : List Word) : (s.respond n st p d).err = s.err := rfl
@[simp] theorem State.respond_lastErr (s : State.Of R) (n : Nat) (st : Status) (p : BitVec 24) (d : List Word) : (s.respond n st p d).lastErr = s.lastErr := rfl
@[simp] theorem State.respond_lastWs (s : State.Of R) (n : Nat) (st : Status) (p : BitVec 24) (d : List Word) : (s.respond n st p d).lastWs = s.lastWs := rfl
@[simp] theorem State.respond_rr (s : State.Of R) (n : Nat) (st : Status) (p : BitVec 24) (d : List Word) : (s.respond n st p d).rr = s.rr := rfl
@[simp] theorem State.respond_key (s : State.Of R) (n : Nat) (st : Status) (p : BitVec 24) (d : List Word) : (s.respond n st p d).key = s.key := rfl
@[simp] theorem State.respond_work (s : State.Of R) (n : Nat) (st : Status) (p : BitVec 24) (d : List Word) : (s.respond n st p d).work = s.work := rfl
@[simp] theorem State.respond_free (s : State.Of R) (n : Nat) (st : Status) (p : BitVec 24) (d : List Word) : (s.respond n st p d).free = s.free := rfl
@[simp] theorem State.respond_iqIn (s : State.Of R) (n : Nat) (st : Status) (p : BitVec 24) (d : List Word) : (s.respond n st p d).ports.iqIn = s.ports.iqIn := rfl
@[simp] theorem State.respond_cmd (s : State.Of R) (n : Nat) (st : Status) (p : BitVec 24) (d : List Word) : (s.respond n st p d).ports.cmd = s.ports.cmd.drop n := rfl
@[simp] theorem State.respond_resp (s : State.Of R) (n : Nat) (st : Status) (p : BitVec 24) (d : List Word) : (s.respond n st p d).ports.resp = s.ports.resp ++ (st.code ++ p) :: d := rfl
@[simp] theorem State.respond_symOut (s : State.Of R) (n : Nat) (st : Status) (p : BitVec 24) (d : List Word) : (s.respond n st p d).ports.symOut = s.ports.symOut := rfl
@[simp] theorem State.respond_syncOut (s : State.Of R) (n : Nat) (st : Status) (p : BitVec 24) (d : List Word) : (s.respond n st p d).ports.syncOut = s.ports.syncOut := rfl
@[simp] theorem State.respond_audioOut (s : State.Of R) (n : Nat) (st : Status) (p : BitVec 24) (d : List Word) : (s.respond n st p d).ports.audioOut = s.ports.audioOut := rfl

/-! ### `State.done` -/

@[simp] theorem State.done_csr (s : State.Of R) (n : Nat) (p : BitVec 24) : (s.done n p).csr = s.csr := rfl
@[simp] theorem State.done_cfg (s : State.Of R) (n : Nat) (p : BitVec 24) : (s.done n p).cfg = s.cfg := rfl
@[simp] theorem State.done_fs4n (s : State.Of R) (n : Nat) (p : BitVec 24) : (s.done n p).fs4n = s.fs4n := rfl
@[simp] theorem State.done_hb (s : State.Of R) (n : Nat) (p : BitVec 24) : (s.done n p).hb = s.hb := rfl
@[simp] theorem State.done_dc (s : State.Of R) (n : Nat) (p : BitVec 24) : (s.done n p).dc = s.dc := rfl
@[simp] theorem State.done_agc (s : State.Of R) (n : Nat) (p : BitVec 24) : (s.done n p).agc = s.agc := rfl
@[simp] theorem State.done_iqb (s : State.Of R) (n : Nat) (p : BitVec 24) : (s.done n p).iqb = s.iqb := rfl
@[simp] theorem State.done_be (s : State.Of R) (n : Nat) (p : BitVec 24) : (s.done n p).be = s.be := rfl
@[simp] theorem State.done_cos (s : State.Of R) (n : Nat) (p : BitVec 24) : (s.done n p).cos = s.cos := rfl
@[simp] theorem State.done_ted (s : State.Of R) (n : Nat) (p : BitVec 24) : (s.done n p).ted = s.ted := rfl
@[simp] theorem State.done_diffPrev (s : State.Of R) (n : Nat) (p : BitVec 24) : (s.done n p).diffPrev = s.diffPrev := rfl
@[simp] theorem State.done_eq (s : State.Of R) (n : Nat) (p : BitVec 24) : (s.done n p).eq = s.eq := rfl
@[simp] theorem State.done_lf (s : State.Of R) (n : Nat) (p : BitVec 24) : (s.done n p).lf = s.lf := rfl
@[simp] theorem State.done_discPrev (s : State.Of R) (n : Nat) (p : BitVec 24) : (s.done n p).discPrev = s.discPrev := rfl
@[simp] theorem State.done_de (s : State.Of R) (n : Nat) (p : BitVec 24) : (s.done n p).de = s.de := rfl
@[simp] theorem State.done_al (s : State.Of R) (n : Nat) (p : BitVec 24) : (s.done n p).al = s.al := rfl
@[simp] theorem State.done_ch (s : State.Of R) (n : Nat) (p : BitVec 24) : (s.done n p).ch = s.ch := rfl
@[simp] theorem State.done_rs (s : State.Of R) (n : Nat) (p : BitVec 24) : (s.done n p).rs = s.rs := rfl
@[simp] theorem State.done_sl (s : State.Of R) (n : Nat) (p : BitVec 24) : (s.done n p).sl = s.sl := rfl
@[simp] theorem State.done_sh (s : State.Of R) (n : Nat) (p : BitVec 24) : (s.done n p).sh = s.sh := rfl
@[simp] theorem State.done_sync (s : State.Of R) (n : Nat) (p : BitVec 24) : (s.done n p).sync = s.sync := rfl
@[simp] theorem State.done_perm (s : State.Of R) (n : Nat) (p : BitVec 24) : (s.done n p).perm = s.perm := rfl
@[simp] theorem State.done_permLock (s : State.Of R) (n : Nat) (p : BitVec 24) : (s.done n p).permLock = s.permLock := rfl
@[simp] theorem State.done_dmr (s : State.Of R) (n : Nat) (p : BitVec 24) : (s.done n p).dmr = s.dmr := rfl
@[simp] theorem State.done_symcount (s : State.Of R) (n : Nat) (p : BitVec 24) : (s.done n p).symcount = s.symcount := rfl
@[simp] theorem State.done_err (s : State.Of R) (n : Nat) (p : BitVec 24) : (s.done n p).err = s.err := rfl
@[simp] theorem State.done_lastErr (s : State.Of R) (n : Nat) (p : BitVec 24) : (s.done n p).lastErr = s.lastErr := rfl
@[simp] theorem State.done_lastWs (s : State.Of R) (n : Nat) (p : BitVec 24) : (s.done n p).lastWs = s.lastWs := rfl
@[simp] theorem State.done_rr (s : State.Of R) (n : Nat) (p : BitVec 24) : (s.done n p).rr = s.rr := rfl
@[simp] theorem State.done_key (s : State.Of R) (n : Nat) (p : BitVec 24) : (s.done n p).key = s.key := rfl
@[simp] theorem State.done_work (s : State.Of R) (n : Nat) (p : BitVec 24) : (s.done n p).work = s.work := rfl
@[simp] theorem State.done_free (s : State.Of R) (n : Nat) (p : BitVec 24) : (s.done n p).free = s.free := rfl
@[simp] theorem State.done_iqIn (s : State.Of R) (n : Nat) (p : BitVec 24) : (s.done n p).ports.iqIn = s.ports.iqIn := rfl
@[simp] theorem State.done_cmd (s : State.Of R) (n : Nat) (p : BitVec 24) : (s.done n p).ports.cmd = s.ports.cmd.drop n := rfl
@[simp] theorem State.done_resp (s : State.Of R) (n : Nat) (p : BitVec 24) : (s.done n p).ports.resp = s.ports.resp ++ [Status.ok.code ++ p] := rfl
@[simp] theorem State.done_symOut (s : State.Of R) (n : Nat) (p : BitVec 24) : (s.done n p).ports.symOut = s.ports.symOut := rfl
@[simp] theorem State.done_syncOut (s : State.Of R) (n : Nat) (p : BitVec 24) : (s.done n p).ports.syncOut = s.ports.syncOut := rfl
@[simp] theorem State.done_audioOut (s : State.Of R) (n : Nat) (p : BitVec 24) : (s.done n p).ports.audioOut = s.ports.audioOut := rfl

/-! ### `State.raise` -/

@[simp] theorem State.raise_csr (s : State.Of R) (n : Nat) (e : Status) : (s.raise n e).csr = s.csr := rfl
@[simp] theorem State.raise_cfg (s : State.Of R) (n : Nat) (e : Status) : (s.raise n e).cfg = s.cfg := rfl
@[simp] theorem State.raise_fs4n (s : State.Of R) (n : Nat) (e : Status) : (s.raise n e).fs4n = s.fs4n := rfl
@[simp] theorem State.raise_hb (s : State.Of R) (n : Nat) (e : Status) : (s.raise n e).hb = s.hb := rfl
@[simp] theorem State.raise_dc (s : State.Of R) (n : Nat) (e : Status) : (s.raise n e).dc = s.dc := rfl
@[simp] theorem State.raise_agc (s : State.Of R) (n : Nat) (e : Status) : (s.raise n e).agc = s.agc := rfl
@[simp] theorem State.raise_iqb (s : State.Of R) (n : Nat) (e : Status) : (s.raise n e).iqb = s.iqb := rfl
@[simp] theorem State.raise_be (s : State.Of R) (n : Nat) (e : Status) : (s.raise n e).be = s.be := rfl
@[simp] theorem State.raise_cos (s : State.Of R) (n : Nat) (e : Status) : (s.raise n e).cos = s.cos := rfl
@[simp] theorem State.raise_ted (s : State.Of R) (n : Nat) (e : Status) : (s.raise n e).ted = s.ted := rfl
@[simp] theorem State.raise_diffPrev (s : State.Of R) (n : Nat) (e : Status) : (s.raise n e).diffPrev = s.diffPrev := rfl
@[simp] theorem State.raise_eq (s : State.Of R) (n : Nat) (e : Status) : (s.raise n e).eq = s.eq := rfl
@[simp] theorem State.raise_lf (s : State.Of R) (n : Nat) (e : Status) : (s.raise n e).lf = s.lf := rfl
@[simp] theorem State.raise_discPrev (s : State.Of R) (n : Nat) (e : Status) : (s.raise n e).discPrev = s.discPrev := rfl
@[simp] theorem State.raise_de (s : State.Of R) (n : Nat) (e : Status) : (s.raise n e).de = s.de := rfl
@[simp] theorem State.raise_al (s : State.Of R) (n : Nat) (e : Status) : (s.raise n e).al = s.al := rfl
@[simp] theorem State.raise_ch (s : State.Of R) (n : Nat) (e : Status) : (s.raise n e).ch = s.ch := rfl
@[simp] theorem State.raise_rs (s : State.Of R) (n : Nat) (e : Status) : (s.raise n e).rs = s.rs := rfl
@[simp] theorem State.raise_sl (s : State.Of R) (n : Nat) (e : Status) : (s.raise n e).sl = s.sl := rfl
@[simp] theorem State.raise_sh (s : State.Of R) (n : Nat) (e : Status) : (s.raise n e).sh = s.sh := rfl
@[simp] theorem State.raise_sync (s : State.Of R) (n : Nat) (e : Status) : (s.raise n e).sync = s.sync := rfl
@[simp] theorem State.raise_perm (s : State.Of R) (n : Nat) (e : Status) : (s.raise n e).perm = s.perm := rfl
@[simp] theorem State.raise_permLock (s : State.Of R) (n : Nat) (e : Status) : (s.raise n e).permLock = s.permLock := rfl
@[simp] theorem State.raise_dmr (s : State.Of R) (n : Nat) (e : Status) : (s.raise n e).dmr = s.dmr := rfl
@[simp] theorem State.raise_symcount (s : State.Of R) (n : Nat) (e : Status) : (s.raise n e).symcount = s.symcount := rfl
@[simp] theorem State.raise_lastWs (s : State.Of R) (n : Nat) (e : Status) : (s.raise n e).lastWs = s.lastWs := rfl
@[simp] theorem State.raise_rr (s : State.Of R) (n : Nat) (e : Status) : (s.raise n e).rr = s.rr := rfl
@[simp] theorem State.raise_key (s : State.Of R) (n : Nat) (e : Status) : (s.raise n e).key = s.key := rfl
@[simp] theorem State.raise_work (s : State.Of R) (n : Nat) (e : Status) : (s.raise n e).work = s.work := rfl
@[simp] theorem State.raise_free (s : State.Of R) (n : Nat) (e : Status) : (s.raise n e).free = s.free := rfl
@[simp] theorem State.raise_iqIn (s : State.Of R) (n : Nat) (e : Status) : (s.raise n e).ports.iqIn = s.ports.iqIn := rfl
@[simp] theorem State.raise_cmd (s : State.Of R) (n : Nat) (e : Status) : (s.raise n e).ports.cmd = s.ports.cmd.drop n := rfl
@[simp] theorem State.raise_resp (s : State.Of R) (n : Nat) (e : Status) : (s.raise n e).ports.resp = s.ports.resp ++ [e.code ++ 0#24] := rfl
@[simp] theorem State.raise_symOut (s : State.Of R) (n : Nat) (e : Status) : (s.raise n e).ports.symOut = s.ports.symOut := rfl
@[simp] theorem State.raise_syncOut (s : State.Of R) (n : Nat) (e : Status) : (s.raise n e).ports.syncOut = s.ports.syncOut := rfl
@[simp] theorem State.raise_audioOut (s : State.Of R) (n : Nat) (e : Status) : (s.raise n e).ports.audioOut = s.ports.audioOut := rfl
@[simp] theorem State.raise_err (s : State.Of R) (n : Nat) (e : Status) : (s.raise n e).err = true := rfl
@[simp] theorem State.raise_lastErr (s : State.Of R) (n : Nat) (e : Status) : (s.raise n e).lastErr = e.code := rfl

/-! ### `State.writeRw` -/

@[simp] theorem State.writeRw_cfg (s : State.Of R) (r : Rw) (d : Word) : (s.writeRw r d).cfg = s.cfg := rfl
@[simp] theorem State.writeRw_fs4n (s : State.Of R) (r : Rw) (d : Word) : (s.writeRw r d).fs4n = s.fs4n := rfl
@[simp] theorem State.writeRw_hb (s : State.Of R) (r : Rw) (d : Word) : (s.writeRw r d).hb = s.hb := rfl
@[simp] theorem State.writeRw_dc (s : State.Of R) (r : Rw) (d : Word) : (s.writeRw r d).dc = s.dc := rfl
@[simp] theorem State.writeRw_agc (s : State.Of R) (r : Rw) (d : Word) : (s.writeRw r d).agc = s.agc := rfl
@[simp] theorem State.writeRw_iqb (s : State.Of R) (r : Rw) (d : Word) : (s.writeRw r d).iqb = s.iqb := rfl
@[simp] theorem State.writeRw_be (s : State.Of R) (r : Rw) (d : Word) : (s.writeRw r d).be = s.be := rfl
@[simp] theorem State.writeRw_cos (s : State.Of R) (r : Rw) (d : Word) : (s.writeRw r d).cos = s.cos := rfl
@[simp] theorem State.writeRw_ted (s : State.Of R) (r : Rw) (d : Word) : (s.writeRw r d).ted = s.ted := rfl
@[simp] theorem State.writeRw_diffPrev (s : State.Of R) (r : Rw) (d : Word) : (s.writeRw r d).diffPrev = s.diffPrev := rfl
@[simp] theorem State.writeRw_eq (s : State.Of R) (r : Rw) (d : Word) : (s.writeRw r d).eq = s.eq := rfl
@[simp] theorem State.writeRw_lf (s : State.Of R) (r : Rw) (d : Word) : (s.writeRw r d).lf = s.lf := rfl
@[simp] theorem State.writeRw_discPrev (s : State.Of R) (r : Rw) (d : Word) : (s.writeRw r d).discPrev = s.discPrev := rfl
@[simp] theorem State.writeRw_de (s : State.Of R) (r : Rw) (d : Word) : (s.writeRw r d).de = s.de := rfl
@[simp] theorem State.writeRw_al (s : State.Of R) (r : Rw) (d : Word) : (s.writeRw r d).al = s.al := rfl
@[simp] theorem State.writeRw_ch (s : State.Of R) (r : Rw) (d : Word) : (s.writeRw r d).ch = s.ch := rfl
@[simp] theorem State.writeRw_rs (s : State.Of R) (r : Rw) (d : Word) : (s.writeRw r d).rs = s.rs := rfl
@[simp] theorem State.writeRw_sl (s : State.Of R) (r : Rw) (d : Word) : (s.writeRw r d).sl = s.sl := rfl
@[simp] theorem State.writeRw_sh (s : State.Of R) (r : Rw) (d : Word) : (s.writeRw r d).sh = s.sh := rfl
@[simp] theorem State.writeRw_sync (s : State.Of R) (r : Rw) (d : Word) : (s.writeRw r d).sync = s.sync := rfl
@[simp] theorem State.writeRw_perm (s : State.Of R) (r : Rw) (d : Word) : (s.writeRw r d).perm = s.perm := rfl
@[simp] theorem State.writeRw_permLock (s : State.Of R) (r : Rw) (d : Word) : (s.writeRw r d).permLock = s.permLock := rfl
@[simp] theorem State.writeRw_dmr (s : State.Of R) (r : Rw) (d : Word) : (s.writeRw r d).dmr = s.dmr := rfl
@[simp] theorem State.writeRw_symcount (s : State.Of R) (r : Rw) (d : Word) : (s.writeRw r d).symcount = s.symcount := rfl
@[simp] theorem State.writeRw_err (s : State.Of R) (r : Rw) (d : Word) : (s.writeRw r d).err = s.err := rfl
@[simp] theorem State.writeRw_lastErr (s : State.Of R) (r : Rw) (d : Word) : (s.writeRw r d).lastErr = s.lastErr := rfl
@[simp] theorem State.writeRw_lastWs (s : State.Of R) (r : Rw) (d : Word) : (s.writeRw r d).lastWs = s.lastWs := rfl
@[simp] theorem State.writeRw_rr (s : State.Of R) (r : Rw) (d : Word) : (s.writeRw r d).rr = s.rr := rfl
@[simp] theorem State.writeRw_key (s : State.Of R) (r : Rw) (d : Word) : (s.writeRw r d).key = s.key := rfl
@[simp] theorem State.writeRw_work (s : State.Of R) (r : Rw) (d : Word) : (s.writeRw r d).work = s.work := rfl
@[simp] theorem State.writeRw_free (s : State.Of R) (r : Rw) (d : Word) : (s.writeRw r d).free = s.free := rfl
@[simp] theorem State.writeRw_ports (s : State.Of R) (r : Rw) (d : Word) : (s.writeRw r d).ports = s.ports := rfl
@[simp] theorem State.writeRw_csr (s : State.Of R) (r : Rw) (d : Word) : (s.writeRw r d).csr = s.csr.set r (d &&& r.mask) := rfl

/-! ### `State.writeStatus` -/

@[simp] theorem State.writeStatus_csr (s : State.Of R) (d : Word) : (s.writeStatus d).csr = s.csr := rfl
@[simp] theorem State.writeStatus_cfg (s : State.Of R) (d : Word) : (s.writeStatus d).cfg = s.cfg := rfl
@[simp] theorem State.writeStatus_fs4n (s : State.Of R) (d : Word) : (s.writeStatus d).fs4n = s.fs4n := rfl
@[simp] theorem State.writeStatus_hb (s : State.Of R) (d : Word) : (s.writeStatus d).hb = s.hb := rfl
@[simp] theorem State.writeStatus_dc (s : State.Of R) (d : Word) : (s.writeStatus d).dc = s.dc := rfl
@[simp] theorem State.writeStatus_agc (s : State.Of R) (d : Word) : (s.writeStatus d).agc = s.agc := rfl
@[simp] theorem State.writeStatus_iqb (s : State.Of R) (d : Word) : (s.writeStatus d).iqb = s.iqb := rfl
@[simp] theorem State.writeStatus_be (s : State.Of R) (d : Word) : (s.writeStatus d).be = s.be := rfl
@[simp] theorem State.writeStatus_cos (s : State.Of R) (d : Word) : (s.writeStatus d).cos = s.cos := rfl
@[simp] theorem State.writeStatus_ted (s : State.Of R) (d : Word) : (s.writeStatus d).ted = s.ted := rfl
@[simp] theorem State.writeStatus_diffPrev (s : State.Of R) (d : Word) : (s.writeStatus d).diffPrev = s.diffPrev := rfl
@[simp] theorem State.writeStatus_eq (s : State.Of R) (d : Word) : (s.writeStatus d).eq = s.eq := rfl
@[simp] theorem State.writeStatus_lf (s : State.Of R) (d : Word) : (s.writeStatus d).lf = s.lf := rfl
@[simp] theorem State.writeStatus_discPrev (s : State.Of R) (d : Word) : (s.writeStatus d).discPrev = s.discPrev := rfl
@[simp] theorem State.writeStatus_de (s : State.Of R) (d : Word) : (s.writeStatus d).de = s.de := rfl
@[simp] theorem State.writeStatus_al (s : State.Of R) (d : Word) : (s.writeStatus d).al = s.al := rfl
@[simp] theorem State.writeStatus_ch (s : State.Of R) (d : Word) : (s.writeStatus d).ch = s.ch := rfl
@[simp] theorem State.writeStatus_rs (s : State.Of R) (d : Word) : (s.writeStatus d).rs = s.rs := rfl
@[simp] theorem State.writeStatus_sl (s : State.Of R) (d : Word) : (s.writeStatus d).sl = s.sl := rfl
@[simp] theorem State.writeStatus_sh (s : State.Of R) (d : Word) : (s.writeStatus d).sh = s.sh := rfl
@[simp] theorem State.writeStatus_sync (s : State.Of R) (d : Word) : (s.writeStatus d).sync = s.sync := rfl
@[simp] theorem State.writeStatus_perm (s : State.Of R) (d : Word) : (s.writeStatus d).perm = s.perm := rfl
@[simp] theorem State.writeStatus_permLock (s : State.Of R) (d : Word) : (s.writeStatus d).permLock = s.permLock := rfl
@[simp] theorem State.writeStatus_dmr (s : State.Of R) (d : Word) : (s.writeStatus d).dmr = s.dmr := rfl
@[simp] theorem State.writeStatus_symcount (s : State.Of R) (d : Word) : (s.writeStatus d).symcount = s.symcount := rfl
@[simp] theorem State.writeStatus_lastErr (s : State.Of R) (d : Word) : (s.writeStatus d).lastErr = s.lastErr := rfl
@[simp] theorem State.writeStatus_lastWs (s : State.Of R) (d : Word) : (s.writeStatus d).lastWs = s.lastWs := rfl
@[simp] theorem State.writeStatus_rr (s : State.Of R) (d : Word) : (s.writeStatus d).rr = s.rr := rfl
@[simp] theorem State.writeStatus_key (s : State.Of R) (d : Word) : (s.writeStatus d).key = s.key := rfl
@[simp] theorem State.writeStatus_work (s : State.Of R) (d : Word) : (s.writeStatus d).work = s.work := rfl
@[simp] theorem State.writeStatus_free (s : State.Of R) (d : Word) : (s.writeStatus d).free = s.free := rfl
@[simp] theorem State.writeStatus_ports (s : State.Of R) (d : Word) : (s.writeStatus d).ports = s.ports := rfl
@[simp] theorem State.writeStatus_err (s : State.Of R) (d : Word) : (s.writeStatus d).err = (s.err && !d.getLsbD 0) := rfl

/-! ### `State.latch` -/

@[simp] theorem State.latch_csr (s : State.Of R) : (s.latch).csr = s.csr := rfl
@[simp] theorem State.latch_fs4n (s : State.Of R) : (s.latch).fs4n = s.fs4n := rfl
@[simp] theorem State.latch_hb (s : State.Of R) : (s.latch).hb = s.hb := rfl
@[simp] theorem State.latch_dc (s : State.Of R) : (s.latch).dc = s.dc := rfl
@[simp] theorem State.latch_agc (s : State.Of R) : (s.latch).agc = s.agc := rfl
@[simp] theorem State.latch_iqb (s : State.Of R) : (s.latch).iqb = s.iqb := rfl
@[simp] theorem State.latch_be (s : State.Of R) : (s.latch).be = s.be := rfl
@[simp] theorem State.latch_cos (s : State.Of R) : (s.latch).cos = s.cos := rfl
@[simp] theorem State.latch_ted (s : State.Of R) : (s.latch).ted = s.ted := rfl
@[simp] theorem State.latch_diffPrev (s : State.Of R) : (s.latch).diffPrev = s.diffPrev := rfl
@[simp] theorem State.latch_eq (s : State.Of R) : (s.latch).eq = s.eq := rfl
@[simp] theorem State.latch_lf (s : State.Of R) : (s.latch).lf = s.lf := rfl
@[simp] theorem State.latch_discPrev (s : State.Of R) : (s.latch).discPrev = s.discPrev := rfl
@[simp] theorem State.latch_de (s : State.Of R) : (s.latch).de = s.de := rfl
@[simp] theorem State.latch_al (s : State.Of R) : (s.latch).al = s.al := rfl
@[simp] theorem State.latch_ch (s : State.Of R) : (s.latch).ch = s.ch := rfl
@[simp] theorem State.latch_rs (s : State.Of R) : (s.latch).rs = s.rs := rfl
@[simp] theorem State.latch_sl (s : State.Of R) : (s.latch).sl = s.sl := rfl
@[simp] theorem State.latch_sh (s : State.Of R) : (s.latch).sh = s.sh := rfl
@[simp] theorem State.latch_sync (s : State.Of R) : (s.latch).sync = s.sync := rfl
@[simp] theorem State.latch_perm (s : State.Of R) : (s.latch).perm = s.perm := rfl
@[simp] theorem State.latch_permLock (s : State.Of R) : (s.latch).permLock = s.permLock := rfl
@[simp] theorem State.latch_dmr (s : State.Of R) : (s.latch).dmr = s.dmr := rfl
@[simp] theorem State.latch_symcount (s : State.Of R) : (s.latch).symcount = s.symcount := rfl
@[simp] theorem State.latch_err (s : State.Of R) : (s.latch).err = s.err := rfl
@[simp] theorem State.latch_lastErr (s : State.Of R) : (s.latch).lastErr = s.lastErr := rfl
@[simp] theorem State.latch_lastWs (s : State.Of R) : (s.latch).lastWs = s.lastWs := rfl
@[simp] theorem State.latch_rr (s : State.Of R) : (s.latch).rr = s.rr := rfl
@[simp] theorem State.latch_key (s : State.Of R) : (s.latch).key = s.key := rfl
@[simp] theorem State.latch_work (s : State.Of R) : (s.latch).work = s.work := rfl
@[simp] theorem State.latch_free (s : State.Of R) : (s.latch).free = s.free + 1 := rfl
@[simp] theorem State.latch_ports (s : State.Of R) : (s.latch).ports = s.ports := rfl
@[simp] theorem State.latch_cfg (s : State.Of R) : (s.latch).cfg = s.csr := rfl

/-! ### `State.symPush` -/

@[simp] theorem State.symPush_csr (s : State.Of R) (e : SymEntry R) : (s.symPush e).csr = s.csr := rfl
@[simp] theorem State.symPush_cfg (s : State.Of R) (e : SymEntry R) : (s.symPush e).cfg = s.cfg := rfl
@[simp] theorem State.symPush_fs4n (s : State.Of R) (e : SymEntry R) : (s.symPush e).fs4n = s.fs4n := rfl
@[simp] theorem State.symPush_hb (s : State.Of R) (e : SymEntry R) : (s.symPush e).hb = s.hb := rfl
@[simp] theorem State.symPush_dc (s : State.Of R) (e : SymEntry R) : (s.symPush e).dc = s.dc := rfl
@[simp] theorem State.symPush_agc (s : State.Of R) (e : SymEntry R) : (s.symPush e).agc = s.agc := rfl
@[simp] theorem State.symPush_iqb (s : State.Of R) (e : SymEntry R) : (s.symPush e).iqb = s.iqb := rfl
@[simp] theorem State.symPush_be (s : State.Of R) (e : SymEntry R) : (s.symPush e).be = s.be := rfl
@[simp] theorem State.symPush_cos (s : State.Of R) (e : SymEntry R) : (s.symPush e).cos = s.cos := rfl
@[simp] theorem State.symPush_ted (s : State.Of R) (e : SymEntry R) : (s.symPush e).ted = s.ted := rfl
@[simp] theorem State.symPush_diffPrev (s : State.Of R) (e : SymEntry R) : (s.symPush e).diffPrev = s.diffPrev := rfl
@[simp] theorem State.symPush_eq (s : State.Of R) (e : SymEntry R) : (s.symPush e).eq = s.eq := rfl
@[simp] theorem State.symPush_lf (s : State.Of R) (e : SymEntry R) : (s.symPush e).lf = s.lf := rfl
@[simp] theorem State.symPush_discPrev (s : State.Of R) (e : SymEntry R) : (s.symPush e).discPrev = s.discPrev := rfl
@[simp] theorem State.symPush_de (s : State.Of R) (e : SymEntry R) : (s.symPush e).de = s.de := rfl
@[simp] theorem State.symPush_al (s : State.Of R) (e : SymEntry R) : (s.symPush e).al = s.al := rfl
@[simp] theorem State.symPush_ch (s : State.Of R) (e : SymEntry R) : (s.symPush e).ch = s.ch := rfl
@[simp] theorem State.symPush_rs (s : State.Of R) (e : SymEntry R) : (s.symPush e).rs = s.rs := rfl
@[simp] theorem State.symPush_sl (s : State.Of R) (e : SymEntry R) : (s.symPush e).sl = s.sl := rfl
@[simp] theorem State.symPush_sh (s : State.Of R) (e : SymEntry R) : (s.symPush e).sh = s.sh := rfl
@[simp] theorem State.symPush_sync (s : State.Of R) (e : SymEntry R) : (s.symPush e).sync = s.sync := rfl
@[simp] theorem State.symPush_perm (s : State.Of R) (e : SymEntry R) : (s.symPush e).perm = s.perm := rfl
@[simp] theorem State.symPush_permLock (s : State.Of R) (e : SymEntry R) : (s.symPush e).permLock = s.permLock := rfl
@[simp] theorem State.symPush_dmr (s : State.Of R) (e : SymEntry R) : (s.symPush e).dmr = s.dmr := rfl
@[simp] theorem State.symPush_symcount (s : State.Of R) (e : SymEntry R) : (s.symPush e).symcount = s.symcount := rfl
@[simp] theorem State.symPush_err (s : State.Of R) (e : SymEntry R) : (s.symPush e).err = s.err := rfl
@[simp] theorem State.symPush_lastErr (s : State.Of R) (e : SymEntry R) : (s.symPush e).lastErr = s.lastErr := rfl
@[simp] theorem State.symPush_lastWs (s : State.Of R) (e : SymEntry R) : (s.symPush e).lastWs = s.lastWs := rfl
@[simp] theorem State.symPush_rr (s : State.Of R) (e : SymEntry R) : (s.symPush e).rr = s.rr := rfl
@[simp] theorem State.symPush_key (s : State.Of R) (e : SymEntry R) : (s.symPush e).key = s.key := rfl
@[simp] theorem State.symPush_work (s : State.Of R) (e : SymEntry R) : (s.symPush e).work = s.work := rfl
@[simp] theorem State.symPush_free (s : State.Of R) (e : SymEntry R) : (s.symPush e).free = s.free := rfl
@[simp] theorem State.symPush_iqIn (s : State.Of R) (e : SymEntry R) : (s.symPush e).ports.iqIn = s.ports.iqIn := rfl
@[simp] theorem State.symPush_cmd (s : State.Of R) (e : SymEntry R) : (s.symPush e).ports.cmd = s.ports.cmd := rfl
@[simp] theorem State.symPush_resp (s : State.Of R) (e : SymEntry R) : (s.symPush e).ports.resp = s.ports.resp := rfl
@[simp] theorem State.symPush_symOut (s : State.Of R) (e : SymEntry R) : (s.symPush e).ports.symOut = s.ports.symOut ++ [e] := rfl
@[simp] theorem State.symPush_syncOut (s : State.Of R) (e : SymEntry R) : (s.symPush e).ports.syncOut = s.ports.syncOut := rfl
@[simp] theorem State.symPush_audioOut (s : State.Of R) (e : SymEntry R) : (s.symPush e).ports.audioOut = s.ports.audioOut := rfl

/-! ### `State.syncPush` -/

@[simp] theorem State.syncPush_csr (s : State.Of R) (e : SyncEvent) : (s.syncPush e).csr = s.csr := rfl
@[simp] theorem State.syncPush_cfg (s : State.Of R) (e : SyncEvent) : (s.syncPush e).cfg = s.cfg := rfl
@[simp] theorem State.syncPush_fs4n (s : State.Of R) (e : SyncEvent) : (s.syncPush e).fs4n = s.fs4n := rfl
@[simp] theorem State.syncPush_hb (s : State.Of R) (e : SyncEvent) : (s.syncPush e).hb = s.hb := rfl
@[simp] theorem State.syncPush_dc (s : State.Of R) (e : SyncEvent) : (s.syncPush e).dc = s.dc := rfl
@[simp] theorem State.syncPush_agc (s : State.Of R) (e : SyncEvent) : (s.syncPush e).agc = s.agc := rfl
@[simp] theorem State.syncPush_iqb (s : State.Of R) (e : SyncEvent) : (s.syncPush e).iqb = s.iqb := rfl
@[simp] theorem State.syncPush_be (s : State.Of R) (e : SyncEvent) : (s.syncPush e).be = s.be := rfl
@[simp] theorem State.syncPush_cos (s : State.Of R) (e : SyncEvent) : (s.syncPush e).cos = s.cos := rfl
@[simp] theorem State.syncPush_ted (s : State.Of R) (e : SyncEvent) : (s.syncPush e).ted = s.ted := rfl
@[simp] theorem State.syncPush_diffPrev (s : State.Of R) (e : SyncEvent) : (s.syncPush e).diffPrev = s.diffPrev := rfl
@[simp] theorem State.syncPush_eq (s : State.Of R) (e : SyncEvent) : (s.syncPush e).eq = s.eq := rfl
@[simp] theorem State.syncPush_lf (s : State.Of R) (e : SyncEvent) : (s.syncPush e).lf = s.lf := rfl
@[simp] theorem State.syncPush_discPrev (s : State.Of R) (e : SyncEvent) : (s.syncPush e).discPrev = s.discPrev := rfl
@[simp] theorem State.syncPush_de (s : State.Of R) (e : SyncEvent) : (s.syncPush e).de = s.de := rfl
@[simp] theorem State.syncPush_al (s : State.Of R) (e : SyncEvent) : (s.syncPush e).al = s.al := rfl
@[simp] theorem State.syncPush_ch (s : State.Of R) (e : SyncEvent) : (s.syncPush e).ch = s.ch := rfl
@[simp] theorem State.syncPush_rs (s : State.Of R) (e : SyncEvent) : (s.syncPush e).rs = s.rs := rfl
@[simp] theorem State.syncPush_sl (s : State.Of R) (e : SyncEvent) : (s.syncPush e).sl = s.sl := rfl
@[simp] theorem State.syncPush_sh (s : State.Of R) (e : SyncEvent) : (s.syncPush e).sh = s.sh := rfl
@[simp] theorem State.syncPush_sync (s : State.Of R) (e : SyncEvent) : (s.syncPush e).sync = s.sync := rfl
@[simp] theorem State.syncPush_perm (s : State.Of R) (e : SyncEvent) : (s.syncPush e).perm = s.perm := rfl
@[simp] theorem State.syncPush_permLock (s : State.Of R) (e : SyncEvent) : (s.syncPush e).permLock = s.permLock := rfl
@[simp] theorem State.syncPush_dmr (s : State.Of R) (e : SyncEvent) : (s.syncPush e).dmr = s.dmr := rfl
@[simp] theorem State.syncPush_symcount (s : State.Of R) (e : SyncEvent) : (s.syncPush e).symcount = s.symcount := rfl
@[simp] theorem State.syncPush_err (s : State.Of R) (e : SyncEvent) : (s.syncPush e).err = s.err := rfl
@[simp] theorem State.syncPush_lastErr (s : State.Of R) (e : SyncEvent) : (s.syncPush e).lastErr = s.lastErr := rfl
@[simp] theorem State.syncPush_lastWs (s : State.Of R) (e : SyncEvent) : (s.syncPush e).lastWs = s.lastWs := rfl
@[simp] theorem State.syncPush_rr (s : State.Of R) (e : SyncEvent) : (s.syncPush e).rr = s.rr := rfl
@[simp] theorem State.syncPush_key (s : State.Of R) (e : SyncEvent) : (s.syncPush e).key = s.key := rfl
@[simp] theorem State.syncPush_work (s : State.Of R) (e : SyncEvent) : (s.syncPush e).work = s.work := rfl
@[simp] theorem State.syncPush_free (s : State.Of R) (e : SyncEvent) : (s.syncPush e).free = s.free := rfl
@[simp] theorem State.syncPush_iqIn (s : State.Of R) (e : SyncEvent) : (s.syncPush e).ports.iqIn = s.ports.iqIn := rfl
@[simp] theorem State.syncPush_cmd (s : State.Of R) (e : SyncEvent) : (s.syncPush e).ports.cmd = s.ports.cmd := rfl
@[simp] theorem State.syncPush_resp (s : State.Of R) (e : SyncEvent) : (s.syncPush e).ports.resp = s.ports.resp := rfl
@[simp] theorem State.syncPush_symOut (s : State.Of R) (e : SyncEvent) : (s.syncPush e).ports.symOut = s.ports.symOut := rfl
@[simp] theorem State.syncPush_syncOut (s : State.Of R) (e : SyncEvent) : (s.syncPush e).ports.syncOut = s.ports.syncOut ++ [e] := rfl
@[simp] theorem State.syncPush_audioOut (s : State.Of R) (e : SyncEvent) : (s.syncPush e).ports.audioOut = s.ports.audioOut := rfl

/-! ### `State.audioPush` -/

@[simp] theorem State.audioPush_csr (p : Params R) (s : State.Of R) (v : BitVec 16) : (s.audioPush p v).csr = s.csr := rfl
@[simp] theorem State.audioPush_cfg (p : Params R) (s : State.Of R) (v : BitVec 16) : (s.audioPush p v).cfg = s.cfg := rfl
@[simp] theorem State.audioPush_fs4n (p : Params R) (s : State.Of R) (v : BitVec 16) : (s.audioPush p v).fs4n = s.fs4n := rfl
@[simp] theorem State.audioPush_hb (p : Params R) (s : State.Of R) (v : BitVec 16) : (s.audioPush p v).hb = s.hb := rfl
@[simp] theorem State.audioPush_dc (p : Params R) (s : State.Of R) (v : BitVec 16) : (s.audioPush p v).dc = s.dc := rfl
@[simp] theorem State.audioPush_agc (p : Params R) (s : State.Of R) (v : BitVec 16) : (s.audioPush p v).agc = s.agc := rfl
@[simp] theorem State.audioPush_iqb (p : Params R) (s : State.Of R) (v : BitVec 16) : (s.audioPush p v).iqb = s.iqb := rfl
@[simp] theorem State.audioPush_be (p : Params R) (s : State.Of R) (v : BitVec 16) : (s.audioPush p v).be = s.be := rfl
@[simp] theorem State.audioPush_cos (p : Params R) (s : State.Of R) (v : BitVec 16) : (s.audioPush p v).cos = s.cos := rfl
@[simp] theorem State.audioPush_ted (p : Params R) (s : State.Of R) (v : BitVec 16) : (s.audioPush p v).ted = s.ted := rfl
@[simp] theorem State.audioPush_diffPrev (p : Params R) (s : State.Of R) (v : BitVec 16) : (s.audioPush p v).diffPrev = s.diffPrev := rfl
@[simp] theorem State.audioPush_eq (p : Params R) (s : State.Of R) (v : BitVec 16) : (s.audioPush p v).eq = s.eq := rfl
@[simp] theorem State.audioPush_lf (p : Params R) (s : State.Of R) (v : BitVec 16) : (s.audioPush p v).lf = s.lf := rfl
@[simp] theorem State.audioPush_discPrev (p : Params R) (s : State.Of R) (v : BitVec 16) : (s.audioPush p v).discPrev = s.discPrev := rfl
@[simp] theorem State.audioPush_de (p : Params R) (s : State.Of R) (v : BitVec 16) : (s.audioPush p v).de = s.de := rfl
@[simp] theorem State.audioPush_al (p : Params R) (s : State.Of R) (v : BitVec 16) : (s.audioPush p v).al = s.al := rfl
@[simp] theorem State.audioPush_ch (p : Params R) (s : State.Of R) (v : BitVec 16) : (s.audioPush p v).ch = s.ch := rfl
@[simp] theorem State.audioPush_rs (p : Params R) (s : State.Of R) (v : BitVec 16) : (s.audioPush p v).rs = s.rs := rfl
@[simp] theorem State.audioPush_sl (p : Params R) (s : State.Of R) (v : BitVec 16) : (s.audioPush p v).sl = s.sl := rfl
@[simp] theorem State.audioPush_sh (p : Params R) (s : State.Of R) (v : BitVec 16) : (s.audioPush p v).sh = s.sh := rfl
@[simp] theorem State.audioPush_sync (p : Params R) (s : State.Of R) (v : BitVec 16) : (s.audioPush p v).sync = s.sync := rfl
@[simp] theorem State.audioPush_perm (p : Params R) (s : State.Of R) (v : BitVec 16) : (s.audioPush p v).perm = s.perm := rfl
@[simp] theorem State.audioPush_permLock (p : Params R) (s : State.Of R) (v : BitVec 16) : (s.audioPush p v).permLock = s.permLock := rfl
@[simp] theorem State.audioPush_dmr (p : Params R) (s : State.Of R) (v : BitVec 16) : (s.audioPush p v).dmr = s.dmr := rfl
@[simp] theorem State.audioPush_symcount (p : Params R) (s : State.Of R) (v : BitVec 16) : (s.audioPush p v).symcount = s.symcount := rfl
@[simp] theorem State.audioPush_err (p : Params R) (s : State.Of R) (v : BitVec 16) : (s.audioPush p v).err = s.err := rfl
@[simp] theorem State.audioPush_lastErr (p : Params R) (s : State.Of R) (v : BitVec 16) : (s.audioPush p v).lastErr = s.lastErr := rfl
@[simp] theorem State.audioPush_lastWs (p : Params R) (s : State.Of R) (v : BitVec 16) : (s.audioPush p v).lastWs = s.lastWs := rfl
@[simp] theorem State.audioPush_rr (p : Params R) (s : State.Of R) (v : BitVec 16) : (s.audioPush p v).rr = s.rr := rfl
@[simp] theorem State.audioPush_key (p : Params R) (s : State.Of R) (v : BitVec 16) : (s.audioPush p v).key = s.key := rfl
@[simp] theorem State.audioPush_work (p : Params R) (s : State.Of R) (v : BitVec 16) : (s.audioPush p v).work = s.work := rfl
@[simp] theorem State.audioPush_free (p : Params R) (s : State.Of R) (v : BitVec 16) : (s.audioPush p v).free = s.free := rfl
@[simp] theorem State.audioPush_iqIn (p : Params R) (s : State.Of R) (v : BitVec 16) : (s.audioPush p v).ports.iqIn = s.ports.iqIn := rfl
@[simp] theorem State.audioPush_cmd (p : Params R) (s : State.Of R) (v : BitVec 16) : (s.audioPush p v).ports.cmd = s.ports.cmd := rfl
@[simp] theorem State.audioPush_resp (p : Params R) (s : State.Of R) (v : BitVec 16) : (s.audioPush p v).ports.resp = s.ports.resp := rfl
@[simp] theorem State.audioPush_symOut (p : Params R) (s : State.Of R) (v : BitVec 16) : (s.audioPush p v).ports.symOut = s.ports.symOut := rfl
@[simp] theorem State.audioPush_syncOut (p : Params R) (s : State.Of R) (v : BitVec 16) : (s.audioPush p v).ports.syncOut = s.ports.syncOut := rfl
@[simp] theorem State.audioPush_audioOut (p : Params R) (s : State.Of R) (v : BitVec 16) : (s.audioPush p v).ports.audioOut = appendDropOld p.audioCap s.ports.audioOut v := rfl

/-! ### `State.withCommand` -/

@[simp] theorem State.withCommand_csr (s : State.Of R) (ws : List Word) : (s.withCommand ws).csr = s.csr := rfl
@[simp] theorem State.withCommand_cfg (s : State.Of R) (ws : List Word) : (s.withCommand ws).cfg = s.cfg := rfl
@[simp] theorem State.withCommand_fs4n (s : State.Of R) (ws : List Word) : (s.withCommand ws).fs4n = s.fs4n := rfl
@[simp] theorem State.withCommand_hb (s : State.Of R) (ws : List Word) : (s.withCommand ws).hb = s.hb := rfl
@[simp] theorem State.withCommand_dc (s : State.Of R) (ws : List Word) : (s.withCommand ws).dc = s.dc := rfl
@[simp] theorem State.withCommand_agc (s : State.Of R) (ws : List Word) : (s.withCommand ws).agc = s.agc := rfl
@[simp] theorem State.withCommand_iqb (s : State.Of R) (ws : List Word) : (s.withCommand ws).iqb = s.iqb := rfl
@[simp] theorem State.withCommand_be (s : State.Of R) (ws : List Word) : (s.withCommand ws).be = s.be := rfl
@[simp] theorem State.withCommand_cos (s : State.Of R) (ws : List Word) : (s.withCommand ws).cos = s.cos := rfl
@[simp] theorem State.withCommand_ted (s : State.Of R) (ws : List Word) : (s.withCommand ws).ted = s.ted := rfl
@[simp] theorem State.withCommand_diffPrev (s : State.Of R) (ws : List Word) : (s.withCommand ws).diffPrev = s.diffPrev := rfl
@[simp] theorem State.withCommand_eq (s : State.Of R) (ws : List Word) : (s.withCommand ws).eq = s.eq := rfl
@[simp] theorem State.withCommand_lf (s : State.Of R) (ws : List Word) : (s.withCommand ws).lf = s.lf := rfl
@[simp] theorem State.withCommand_discPrev (s : State.Of R) (ws : List Word) : (s.withCommand ws).discPrev = s.discPrev := rfl
@[simp] theorem State.withCommand_de (s : State.Of R) (ws : List Word) : (s.withCommand ws).de = s.de := rfl
@[simp] theorem State.withCommand_al (s : State.Of R) (ws : List Word) : (s.withCommand ws).al = s.al := rfl
@[simp] theorem State.withCommand_ch (s : State.Of R) (ws : List Word) : (s.withCommand ws).ch = s.ch := rfl
@[simp] theorem State.withCommand_rs (s : State.Of R) (ws : List Word) : (s.withCommand ws).rs = s.rs := rfl
@[simp] theorem State.withCommand_sl (s : State.Of R) (ws : List Word) : (s.withCommand ws).sl = s.sl := rfl
@[simp] theorem State.withCommand_sh (s : State.Of R) (ws : List Word) : (s.withCommand ws).sh = s.sh := rfl
@[simp] theorem State.withCommand_sync (s : State.Of R) (ws : List Word) : (s.withCommand ws).sync = s.sync := rfl
@[simp] theorem State.withCommand_perm (s : State.Of R) (ws : List Word) : (s.withCommand ws).perm = s.perm := rfl
@[simp] theorem State.withCommand_permLock (s : State.Of R) (ws : List Word) : (s.withCommand ws).permLock = s.permLock := rfl
@[simp] theorem State.withCommand_dmr (s : State.Of R) (ws : List Word) : (s.withCommand ws).dmr = s.dmr := rfl
@[simp] theorem State.withCommand_symcount (s : State.Of R) (ws : List Word) : (s.withCommand ws).symcount = s.symcount := rfl
@[simp] theorem State.withCommand_err (s : State.Of R) (ws : List Word) : (s.withCommand ws).err = s.err := rfl
@[simp] theorem State.withCommand_lastErr (s : State.Of R) (ws : List Word) : (s.withCommand ws).lastErr = s.lastErr := rfl
@[simp] theorem State.withCommand_lastWs (s : State.Of R) (ws : List Word) : (s.withCommand ws).lastWs = s.lastWs := rfl
@[simp] theorem State.withCommand_rr (s : State.Of R) (ws : List Word) : (s.withCommand ws).rr = s.rr := rfl
@[simp] theorem State.withCommand_key (s : State.Of R) (ws : List Word) : (s.withCommand ws).key = s.key := rfl
@[simp] theorem State.withCommand_work (s : State.Of R) (ws : List Word) : (s.withCommand ws).work = s.work := rfl
@[simp] theorem State.withCommand_free (s : State.Of R) (ws : List Word) : (s.withCommand ws).free = s.free := rfl
@[simp] theorem State.withCommand_iqIn (s : State.Of R) (ws : List Word) : (s.withCommand ws).ports.iqIn = s.ports.iqIn := rfl
@[simp] theorem State.withCommand_cmd (s : State.Of R) (ws : List Word) : (s.withCommand ws).ports.cmd = ws ++ s.ports.cmd := rfl
@[simp] theorem State.withCommand_resp (s : State.Of R) (ws : List Word) : (s.withCommand ws).ports.resp = s.ports.resp := rfl
@[simp] theorem State.withCommand_symOut (s : State.Of R) (ws : List Word) : (s.withCommand ws).ports.symOut = s.ports.symOut := rfl
@[simp] theorem State.withCommand_syncOut (s : State.Of R) (ws : List Word) : (s.withCommand ws).ports.syncOut = s.ports.syncOut := rfl
@[simp] theorem State.withCommand_audioOut (s : State.Of R) (ws : List Word) : (s.withCommand ws).ports.audioOut = s.ports.audioOut := rfl

/-! ### `State.withStream` -/

@[simp] theorem State.withStream_csr (s : State) (xs : List C32) : (s.withStream xs).csr = s.csr := rfl
@[simp] theorem State.withStream_cfg (s : State) (xs : List C32) : (s.withStream xs).cfg = s.cfg := rfl
@[simp] theorem State.withStream_fs4n (s : State) (xs : List C32) : (s.withStream xs).fs4n = s.fs4n := rfl
@[simp] theorem State.withStream_hb (s : State) (xs : List C32) : (s.withStream xs).hb = s.hb := rfl
@[simp] theorem State.withStream_dc (s : State) (xs : List C32) : (s.withStream xs).dc = s.dc := rfl
@[simp] theorem State.withStream_agc (s : State) (xs : List C32) : (s.withStream xs).agc = s.agc := rfl
@[simp] theorem State.withStream_iqb (s : State) (xs : List C32) : (s.withStream xs).iqb = s.iqb := rfl
@[simp] theorem State.withStream_be (s : State) (xs : List C32) : (s.withStream xs).be = s.be := rfl
@[simp] theorem State.withStream_cos (s : State) (xs : List C32) : (s.withStream xs).cos = s.cos := rfl
@[simp] theorem State.withStream_ted (s : State) (xs : List C32) : (s.withStream xs).ted = s.ted := rfl
@[simp] theorem State.withStream_diffPrev (s : State) (xs : List C32) : (s.withStream xs).diffPrev = s.diffPrev := rfl
@[simp] theorem State.withStream_eq (s : State) (xs : List C32) : (s.withStream xs).eq = s.eq := rfl
@[simp] theorem State.withStream_lf (s : State) (xs : List C32) : (s.withStream xs).lf = s.lf := rfl
@[simp] theorem State.withStream_discPrev (s : State) (xs : List C32) : (s.withStream xs).discPrev = s.discPrev := rfl
@[simp] theorem State.withStream_de (s : State) (xs : List C32) : (s.withStream xs).de = s.de := rfl
@[simp] theorem State.withStream_al (s : State) (xs : List C32) : (s.withStream xs).al = s.al := rfl
@[simp] theorem State.withStream_ch (s : State) (xs : List C32) : (s.withStream xs).ch = s.ch := rfl
@[simp] theorem State.withStream_rs (s : State) (xs : List C32) : (s.withStream xs).rs = s.rs := rfl
@[simp] theorem State.withStream_sl (s : State) (xs : List C32) : (s.withStream xs).sl = s.sl := rfl
@[simp] theorem State.withStream_sh (s : State) (xs : List C32) : (s.withStream xs).sh = s.sh := rfl
@[simp] theorem State.withStream_sync (s : State) (xs : List C32) : (s.withStream xs).sync = s.sync := rfl
@[simp] theorem State.withStream_perm (s : State) (xs : List C32) : (s.withStream xs).perm = s.perm := rfl
@[simp] theorem State.withStream_permLock (s : State) (xs : List C32) : (s.withStream xs).permLock = s.permLock := rfl
@[simp] theorem State.withStream_dmr (s : State) (xs : List C32) : (s.withStream xs).dmr = s.dmr := rfl
@[simp] theorem State.withStream_symcount (s : State) (xs : List C32) : (s.withStream xs).symcount = s.symcount := rfl
@[simp] theorem State.withStream_err (s : State) (xs : List C32) : (s.withStream xs).err = s.err := rfl
@[simp] theorem State.withStream_lastErr (s : State) (xs : List C32) : (s.withStream xs).lastErr = s.lastErr := rfl
@[simp] theorem State.withStream_lastWs (s : State) (xs : List C32) : (s.withStream xs).lastWs = s.lastWs := rfl
@[simp] theorem State.withStream_rr (s : State) (xs : List C32) : (s.withStream xs).rr = s.rr := rfl
@[simp] theorem State.withStream_key (s : State) (xs : List C32) : (s.withStream xs).key = s.key := rfl
@[simp] theorem State.withStream_free (s : State) (xs : List C32) : (s.withStream xs).free = s.free := rfl
@[simp] theorem State.withStream_ports (s : State) (xs : List C32) : (s.withStream xs).ports = s.ports := rfl
@[simp] theorem State.withStream_work (s : State) (xs : List C32) : (s.withStream xs).work = { s.work with xs := xs } := rfl

/-! ### `popSamples` -/

@[simp] theorem popSamples_csr (F : RealFormat R) (s : State.Of R) (n : Nat) : (popSamples F s n).csr = s.csr := rfl
@[simp] theorem popSamples_cfg (F : RealFormat R) (s : State.Of R) (n : Nat) : (popSamples F s n).cfg = s.cfg := rfl
@[simp] theorem popSamples_fs4n (F : RealFormat R) (s : State.Of R) (n : Nat) : (popSamples F s n).fs4n = s.fs4n := rfl
@[simp] theorem popSamples_hb (F : RealFormat R) (s : State.Of R) (n : Nat) : (popSamples F s n).hb = s.hb := rfl
@[simp] theorem popSamples_dc (F : RealFormat R) (s : State.Of R) (n : Nat) : (popSamples F s n).dc = s.dc := rfl
@[simp] theorem popSamples_agc (F : RealFormat R) (s : State.Of R) (n : Nat) : (popSamples F s n).agc = s.agc := rfl
@[simp] theorem popSamples_iqb (F : RealFormat R) (s : State.Of R) (n : Nat) : (popSamples F s n).iqb = s.iqb := rfl
@[simp] theorem popSamples_be (F : RealFormat R) (s : State.Of R) (n : Nat) : (popSamples F s n).be = s.be := rfl
@[simp] theorem popSamples_cos (F : RealFormat R) (s : State.Of R) (n : Nat) : (popSamples F s n).cos = s.cos := rfl
@[simp] theorem popSamples_ted (F : RealFormat R) (s : State.Of R) (n : Nat) : (popSamples F s n).ted = s.ted := rfl
@[simp] theorem popSamples_diffPrev (F : RealFormat R) (s : State.Of R) (n : Nat) : (popSamples F s n).diffPrev = s.diffPrev := rfl
@[simp] theorem popSamples_eq (F : RealFormat R) (s : State.Of R) (n : Nat) : (popSamples F s n).eq = s.eq := rfl
@[simp] theorem popSamples_lf (F : RealFormat R) (s : State.Of R) (n : Nat) : (popSamples F s n).lf = s.lf := rfl
@[simp] theorem popSamples_discPrev (F : RealFormat R) (s : State.Of R) (n : Nat) : (popSamples F s n).discPrev = s.discPrev := rfl
@[simp] theorem popSamples_de (F : RealFormat R) (s : State.Of R) (n : Nat) : (popSamples F s n).de = s.de := rfl
@[simp] theorem popSamples_al (F : RealFormat R) (s : State.Of R) (n : Nat) : (popSamples F s n).al = s.al := rfl
@[simp] theorem popSamples_ch (F : RealFormat R) (s : State.Of R) (n : Nat) : (popSamples F s n).ch = s.ch := rfl
@[simp] theorem popSamples_rs (F : RealFormat R) (s : State.Of R) (n : Nat) : (popSamples F s n).rs = s.rs := rfl
@[simp] theorem popSamples_sl (F : RealFormat R) (s : State.Of R) (n : Nat) : (popSamples F s n).sl = s.sl := rfl
@[simp] theorem popSamples_sh (F : RealFormat R) (s : State.Of R) (n : Nat) : (popSamples F s n).sh = s.sh := rfl
@[simp] theorem popSamples_sync (F : RealFormat R) (s : State.Of R) (n : Nat) : (popSamples F s n).sync = s.sync := rfl
@[simp] theorem popSamples_perm (F : RealFormat R) (s : State.Of R) (n : Nat) : (popSamples F s n).perm = s.perm := rfl
@[simp] theorem popSamples_permLock (F : RealFormat R) (s : State.Of R) (n : Nat) : (popSamples F s n).permLock = s.permLock := rfl
@[simp] theorem popSamples_dmr (F : RealFormat R) (s : State.Of R) (n : Nat) : (popSamples F s n).dmr = s.dmr := rfl
@[simp] theorem popSamples_symcount (F : RealFormat R) (s : State.Of R) (n : Nat) : (popSamples F s n).symcount = s.symcount := rfl
@[simp] theorem popSamples_err (F : RealFormat R) (s : State.Of R) (n : Nat) : (popSamples F s n).err = s.err := rfl
@[simp] theorem popSamples_lastErr (F : RealFormat R) (s : State.Of R) (n : Nat) : (popSamples F s n).lastErr = s.lastErr := rfl
@[simp] theorem popSamples_lastWs (F : RealFormat R) (s : State.Of R) (n : Nat) : (popSamples F s n).lastWs = s.lastWs := rfl
@[simp] theorem popSamples_rr (F : RealFormat R) (s : State.Of R) (n : Nat) : (popSamples F s n).rr = s.rr := rfl
@[simp] theorem popSamples_key (F : RealFormat R) (s : State.Of R) (n : Nat) : (popSamples F s n).key = s.key := rfl
@[simp] theorem popSamples_free (F : RealFormat R) (s : State.Of R) (n : Nat) : (popSamples F s n).free = s.free := rfl
@[simp] theorem popSamples_iqIn (F : RealFormat R) (s : State.Of R) (n : Nat) : (popSamples F s n).ports.iqIn = s.ports.iqIn.drop n := rfl
@[simp] theorem popSamples_cmd (F : RealFormat R) (s : State.Of R) (n : Nat) : (popSamples F s n).ports.cmd = s.ports.cmd := rfl
@[simp] theorem popSamples_resp (F : RealFormat R) (s : State.Of R) (n : Nat) : (popSamples F s n).ports.resp = s.ports.resp := rfl
@[simp] theorem popSamples_symOut (F : RealFormat R) (s : State.Of R) (n : Nat) : (popSamples F s n).ports.symOut = s.ports.symOut := rfl
@[simp] theorem popSamples_syncOut (F : RealFormat R) (s : State.Of R) (n : Nat) : (popSamples F s n).ports.syncOut = s.ports.syncOut := rfl
@[simp] theorem popSamples_audioOut (F : RealFormat R) (s : State.Of R) (n : Nat) : (popSamples F s n).ports.audioOut = s.ports.audioOut := rfl

/-! ### `State.powerOn` -/

@[simp] theorem State.powerOn_ports (p : Params R) (s : State.Of R) : (s.powerOn p).ports = s.ports := rfl
@[simp] theorem State.powerOn_free (p : Params R) (s : State.Of R) : (s.powerOn p).free = s.free := rfl
@[simp] theorem State.powerOn_csr (p : Params R) (s : State.Of R) : (s.powerOn p).csr = (State.resetWith p).csr := rfl
@[simp] theorem State.powerOn_cfg (p : Params R) (s : State.Of R) : (s.powerOn p).cfg = (State.resetWith p).cfg := rfl
@[simp] theorem State.powerOn_fs4n (p : Params R) (s : State.Of R) : (s.powerOn p).fs4n = (State.resetWith p).fs4n := rfl
@[simp] theorem State.powerOn_hb (p : Params R) (s : State.Of R) : (s.powerOn p).hb = (State.resetWith p).hb := rfl
@[simp] theorem State.powerOn_dc (p : Params R) (s : State.Of R) : (s.powerOn p).dc = (State.resetWith p).dc := rfl
@[simp] theorem State.powerOn_agc (p : Params R) (s : State.Of R) : (s.powerOn p).agc = (State.resetWith p).agc := rfl
@[simp] theorem State.powerOn_iqb (p : Params R) (s : State.Of R) : (s.powerOn p).iqb = (State.resetWith p).iqb := rfl
@[simp] theorem State.powerOn_be (p : Params R) (s : State.Of R) : (s.powerOn p).be = (State.resetWith p).be := rfl
@[simp] theorem State.powerOn_cos (p : Params R) (s : State.Of R) : (s.powerOn p).cos = (State.resetWith p).cos := rfl
@[simp] theorem State.powerOn_ted (p : Params R) (s : State.Of R) : (s.powerOn p).ted = (State.resetWith p).ted := rfl
@[simp] theorem State.powerOn_diffPrev (p : Params R) (s : State.Of R) : (s.powerOn p).diffPrev = (State.resetWith p).diffPrev := rfl
@[simp] theorem State.powerOn_eq (p : Params R) (s : State.Of R) : (s.powerOn p).eq = (State.resetWith p).eq := rfl
@[simp] theorem State.powerOn_lf (p : Params R) (s : State.Of R) : (s.powerOn p).lf = (State.resetWith p).lf := rfl
@[simp] theorem State.powerOn_discPrev (p : Params R) (s : State.Of R) : (s.powerOn p).discPrev = (State.resetWith p).discPrev := rfl
@[simp] theorem State.powerOn_de (p : Params R) (s : State.Of R) : (s.powerOn p).de = (State.resetWith p).de := rfl
@[simp] theorem State.powerOn_al (p : Params R) (s : State.Of R) : (s.powerOn p).al = (State.resetWith p).al := rfl
@[simp] theorem State.powerOn_ch (p : Params R) (s : State.Of R) : (s.powerOn p).ch = (State.resetWith p).ch := rfl
@[simp] theorem State.powerOn_rs (p : Params R) (s : State.Of R) : (s.powerOn p).rs = (State.resetWith p).rs := rfl
@[simp] theorem State.powerOn_sl (p : Params R) (s : State.Of R) : (s.powerOn p).sl = (State.resetWith p).sl := rfl
@[simp] theorem State.powerOn_sh (p : Params R) (s : State.Of R) : (s.powerOn p).sh = (State.resetWith p).sh := rfl
@[simp] theorem State.powerOn_sync (p : Params R) (s : State.Of R) : (s.powerOn p).sync = (State.resetWith p).sync := rfl
@[simp] theorem State.powerOn_perm (p : Params R) (s : State.Of R) : (s.powerOn p).perm = (State.resetWith p).perm := rfl
@[simp] theorem State.powerOn_permLock (p : Params R) (s : State.Of R) : (s.powerOn p).permLock = (State.resetWith p).permLock := rfl
@[simp] theorem State.powerOn_dmr (p : Params R) (s : State.Of R) : (s.powerOn p).dmr = (State.resetWith p).dmr := rfl
@[simp] theorem State.powerOn_symcount (p : Params R) (s : State.Of R) : (s.powerOn p).symcount = (State.resetWith p).symcount := rfl
@[simp] theorem State.powerOn_err (p : Params R) (s : State.Of R) : (s.powerOn p).err = (State.resetWith p).err := rfl
@[simp] theorem State.powerOn_lastErr (p : Params R) (s : State.Of R) : (s.powerOn p).lastErr = (State.resetWith p).lastErr := rfl
@[simp] theorem State.powerOn_lastWs (p : Params R) (s : State.Of R) : (s.powerOn p).lastWs = (State.resetWith p).lastWs := rfl
@[simp] theorem State.powerOn_rr (p : Params R) (s : State.Of R) : (s.powerOn p).rr = (State.resetWith p).rr := rfl
@[simp] theorem State.powerOn_key (p : Params R) (s : State.Of R) : (s.powerOn p).key = (State.resetWith p).key := rfl
@[simp] theorem State.powerOn_work (p : Params R) (s : State.Of R) : (s.powerOn p).work = (State.resetWith p).work := rfl

/-! ### The CSR file -/

/-- A CSR reads back what was last written to it. -/
@[simp] theorem CsrFile.get_set (f : CsrFile) (r : Rw) (v : Word) : (f.set r v).get r = v := by
  cases r <;> rfl

/-- A write of one CSR leaves every other one as it was. -/
theorem CsrFile.get_set_ne (f : CsrFile) (r q : Rw) (v : Word) (h : q ≠ r) : (f.set r v).get q = f.get q := by
  cases r <;> cases q <;> first | rfl | exact absurd rfl h

/-- The reset file holds the reset column. -/
@[simp] theorem CsrFile.get_reset (r : Rw) : CsrFile.reset.get r = r.resetValue := by
  cases r <;> rfl

end Sys2Proof.Machine
end

