-- ==== Sys2Proof/Laws/Ops.lean ====
section
/-! SUPPORT. What each shared operation can do, said once: histories and rings keep their length, ports keep their bound,
a stream transducer splits where its stream splits, what a CSR read shows, and that bytes give their entries back. -/

namespace Sys2Proof

/-! ## Histories and stream transducers -/

/-- `push` keeps the length of a history. -/
@[simp] theorem push_length {α : Type} (h : List α) (v : α) : (push h v).length = h.length := by
  simp [push]

/-- The newest element of a nonempty history after `push` is the one pushed. -/
theorem push_head {α : Type} (a : α) (h : List α) (v : α) : (push (a :: h) v).head? = some v := by
  simp [push]

@[simp] theorem transduce_nil {σ α β : Type} (f : σ → α → σ × List β) (s : σ) : transduce f s [] = (s, []) := rfl

@[simp] theorem transduce_cons {σ α β : Type} (f : σ → α → σ × List β) (s : σ) (x : α) (xs : List α) :
    transduce f s (x :: xs)
      = ((transduce f (f s x).1 xs).1, (f s x).2 ++ (transduce f (f s x).1 xs).2) := rfl

/-- A stage run on two streams one after the other is the stage run on their concatenation. -/
theorem transduce_append {σ α β : Type} (f : σ → α → σ × List β) (s : σ) (xs ys : List α) :
    transduce f s (xs ++ ys)
      = ((transduce f (transduce f s xs).1 ys).1,
          (transduce f s xs).2 ++ (transduce f (transduce f s xs).1 ys).2) := by
  induction xs generalizing s with
  | nil => simp
  | cons x xs ih => simp [ih]

/-- What every sample keeps, a stage keeps. -/
theorem transduce_keeps {σ α β : Type} (P : σ → Prop) (f : σ → α → σ × List β) (hf : ∀ s x, P s → P (f s x).1)
    (s : σ) (xs : List α) (hs : P s) : P (transduce f s xs).1 := by
  induction xs generalizing s with
  | nil => exact hs
  | cons x xs ih => exact ih _ (hf s x hs)

/-- A stage with one output for each input keeps the length of its stream. -/
theorem transduce_length {σ α β : Type} (f : σ → α → σ × List β) (hf : ∀ s x, (f s x).2.length = 1) (s : σ)
    (xs : List α) : (transduce f s xs).2.length = xs.length := by
  induction xs generalizing s with
  | nil => rfl
  | cons x xs ih => simp [ih, hf, Nat.add_comm]

end Sys2Proof

namespace Sys2Proof.Machine

variable {R : Type}

/-! ## Ports -/

/-- The producer's append keeps a ring within its capacity. -/
theorem appendDropNew_length_le {α : Type} (cap : Nat) (q : List α) (e : α) (h : q.length ≤ cap - 1) :
    (appendDropNew cap q e).length ≤ cap - 1 := by
  unfold appendDropNew
  split
  · rw [List.length_append, List.length_singleton]; omega
  · exact h

/-- The block's append keeps a ring of at least two places within its capacity. -/
theorem appendDropOld_length_le {α : Type} (cap : Nat) (q : List α) (e : α) (hc : 2 ≤ cap) (h : q.length ≤ cap - 1) :
    (appendDropOld cap q e).length ≤ cap - 1 := by
  unfold appendDropOld
  split <;> simp <;> omega

/-- The block's append loses entries only at the old end. -/
theorem appendDropOld_suffix {α : Type} (cap : Nat) (q : List α) (e : α) : appendDropOld cap q e <:+ q ++ [e] := by
  unfold appendDropOld
  split
  · exact List.suffix_rfl
  · exact (List.suffix_append_inj_of_length_eq rfl).mpr ⟨List.drop_suffix 1 q, rfl⟩

/-! ## CSR accesses -/

/-- A read of a read-write CSR returns the stored word. -/
@[simp] theorem State.readCsr_rw (F : RealFormat R) (s : State.Of R) (r : Rw) : s.readCsr F (.rw r) = s.csr.get r := rfl

/-- A read of STATUS returns its fields. -/
@[simp] theorem State.readCsr_status (F : RealFormat R) (s : State.Of R) : s.readCsr F .status = s.status := rfl

/-- A read of a read-only CSR returns the word it shows. -/
@[simp] theorem State.readCsr_ro (F : RealFormat R) (s : State.Of R) (r : Ro) : s.readCsr F (.ro r) = s.roWord F r := rfl

/-- What a read-only CSR shows of a plain word is that word. -/
theorem State.roWord_word (F : RealFormat R) (s : State.Of R) (r : Ro) (w : Word) (h : s.roValue F r = .word w) : s.roWord F r = w := by
  simp [State.Of.roWord, h]

/-- What a read-only CSR shows of a REAL that is not a NaN is its pattern. -/
theorem State.roWord_real (F : RealFormat R) (s : State.Of R) (r : Ro) (x : F32) (h : s.roValue F r = .real x) (hx : x.isNan = false) :
    s.roWord F r = x.bits := by
  simp [State.Of.roWord, shownWord, h, hx]

/-- A word with the exponent bits set has the exponent field all ones. -/
theorem exponent_all_ones (v : Word) : (v ||| 0x7F800000#32).extractLsb' 23 8 = 0xFF#8 := by
  apply BitVec.eq_of_getLsbD_eq
  intro i hi
  have : i = 0 ∨ i = 1 ∨ i = 2 ∨ i = 3 ∨ i = 4 ∨ i = 5 ∨ i = 6 ∨ i = 7 := by omega
  rcases this with h|h|h|h|h|h|h|h <;> subst h <;> simp

/-- The pattern shown for a NaN is a NaN pattern, whatever the free word is. -/
theorem nanWord_isNan (w : Word) : (F32.mk (nanWord w)).isNan = true := by
  unfold nanWord
  split
  · rename_i h
    have h1 : (w ||| 0x7F800000#32 ||| 1#32) = ((w ||| 1#32) ||| 0x7F800000#32) := by
      rw [BitVec.or_assoc, BitVec.or_assoc, BitVec.or_comm 0x7F800000#32]
    have e := exponent_all_ones (w ||| 1#32)
    simp only [F32.isNan, F32.expo, F32.frac, h1, e]
    have : ((w ||| 1#32 ||| 0x7F800000#32).extractLsb' 0 23) ≠ 0#23 := by
      intro hc
      have := congrArg (fun v => v.getLsbD 0) hc
      simp at this
    simp [BitVec.toNat_eq] at this ⊢
    exact this
  · rename_i h
    have e := exponent_all_ones w
    simp only [F32.isNan, F32.expo, F32.frac, e]
    have : ((w ||| 0x7F800000#32).extractLsb' 0 23) ≠ 0#23 := by
      intro hc
      apply h
      apply BitVec.eq_of_getLsbD_eq
      intro i hi
      by_cases h23 : i < 23
      · have := congrArg (fun v => v.getLsbD i) hc
        simp [BitVec.getLsbD_or, h23] at this
        simp [this.1]
      · have : (0x007FFFFF#32).getLsbD i = false := by
          have : ∀ i < 32, ¬ i < 23 → (0x007FFFFF#32).getLsbD i = false := by decide
          exact this i hi h23
        simp [this]
    simp [BitVec.toNat_eq] at this ⊢
    exact this

/-- What a read-only CSR shows depends on the ports and the error record in nothing: ending a command keeps it. -/
@[simp] theorem State.roWord_respond (F : RealFormat R) (s : State.Of R) (r : Ro) (n : Nat) (st : Status) (p : BitVec 24) (d : List Word) :
    (s.respond n st p d).roWord F r = s.roWord F r := by
  cases r <;> rfl

/-! ## Bytes -/

/-- The bytes of a 32-bit word give the word back. -/
theorem wordOfBytes_wordBytes (w : Word) : wordOfBytes (wordBytes w) = some w := by
  simp only [wordBytes, wordOfBytes, Option.some.injEq]
  ext i hi
  simp only [BitVec.getElem_append, BitVec.getElem_extractLsb']
  split <;> [skip; split <;> [skip; split]] <;> (rw [BitVec.getLsbD_eq_getElem (by omega)]; congr 1; omega)

/-- The bytes of an IQ entry give the entry back. -/
theorem iqOfBytes_bytes (x : IqSample) : iqOfBytes x.bytes = some (x.i, x.q) := by
  have h (v : BitVec 16) : v.extractLsb' 8 8 ++ v.extractLsb' 0 8 = v := by
    ext i hi
    simp only [BitVec.getElem_append, BitVec.getElem_extractLsb']
    split <;> (rw [BitVec.getLsbD_eq_getElem (by omega)]; congr 1; omega)
  simp [IqSample.bytes, iqBytes, halfBytes, iqOfBytes, h]

/-! ## Symbol history -/

@[simp] theorem History.push_v_length (h : History R) (x : R) (d : Dibit) (r : Rel) :
    (h.push x d r).v.length = h.v.length := by simp [History.push]
@[simp] theorem History.push_d_length (h : History R) (x : R) (d : Dibit) (r : Rel) :
    (h.push x d r).d.length = h.d.length := by simp [History.push]
@[simp] theorem History.push_r_length (h : History R) (x : R) (d : Dibit) (r : Rel) :
    (h.push x d r).r.length = h.r.length := by simp [History.push]

/-- The rings keep their form when a symbol enters. -/
theorem History.push_wf (h : History R) (x : R) (d : Dibit) (r : Rel) (hw : h.wf = true) :
    (h.push x d r).wf = true := by
  simp only [History.wf, Bool.and_eq_true, beq_iff_eq, decide_eq_true_eq] at hw ⊢
  refine ⟨⟨⟨⟨by simp [hw], by simp [hw]⟩, by simp [hw]⟩, ?_⟩, ?_⟩
  · exact Nat.mod_lt _ (by decide)
  · exact Nat.min_le_right _ _

/-- Re-digitizing an entry changes neither the symbols nor the index nor the count. -/
@[simp] theorem History.rewrite_v (h : History R) (i : Nat) (d : Dibit) (r : Rel) : (h.rewrite i d r).v = h.v := rfl
@[simp] theorem History.rewrite_w (h : History R) (i : Nat) (d : Dibit) (r : Rel) : (h.rewrite i d r).w = h.w := rfl
@[simp] theorem History.rewrite_n (h : History R) (i : Nat) (d : Dibit) (r : Rel) : (h.rewrite i d r).n = h.n := rfl

/-- Re-digitizing an entry keeps the form of the rings. -/
theorem History.rewrite_wf (h : History R) (i : Nat) (d : Dibit) (r : Rel) (hw : h.wf = true) :
    (h.rewrite i d r).wf = true := by
  simp only [History.wf, Bool.and_eq_true, beq_iff_eq, decide_eq_true_eq] at hw ⊢
  simpa [History.rewrite] using hw

/-! ## Thresholds -/

/-- The derived thresholds depend on `max`, `min` and `center` alone, so deriving them twice is deriving them once. -/
@[simp] theorem Slicer.derive_derive (F : RealFormat R) (sl : Slicer R) : (sl.derive F).derive F = sl.derive F := rfl

@[simp] theorem Slicer.derive_maxbuf (F : RealFormat R) (sl : Slicer R) : (sl.derive F).maxbuf = sl.maxbuf := rfl
@[simp] theorem Slicer.derive_minbuf (F : RealFormat R) (sl : Slicer R) : (sl.derive F).minbuf = sl.minbuf := rfl
@[simp] theorem Slicer.derive_midx (F : RealFormat R) (sl : Slicer R) : (sl.derive F).midx = sl.midx := rfl
@[simp] theorem Slicer.derive_fill (F : RealFormat R) (sl : Slicer R) : (sl.derive F).fill = sl.fill := rfl

/-! ## Warm-start -/

/-- What the warm-start checks can answer (R470, R193): never NULL_STATE, and OK only when the class means are not less
than MIN_SPAN apart. -/
theorem warmCheck_spec (F : RealFormat R) (s : State.Of R) (n : Nat) :
    (warmCheck F s n).1 ≠ .nullState ∧
      ((warmCheck F s n).1 = .ok → F.lt (F.sub (warmCheck F s n).2.1 (warmCheck F s n).2.2) (minSpan F) = false) := by
  unfold warmCheck
  split
  · simp
  · split
    · simp
    · dsimp only
      split
      · simp
      · split
        · simp
        · rename_i h
          exact ⟨by simp, fun _ => by simpa using h⟩

/-- What a warm-start can do (R470, R471): it changes the slicer and the recorded result; on any result but OK the
slicer is as it was; on OK it is the warm slicer of the class means. -/
theorem warmStart_spec (F : RealFormat R) (s : State.Of R) (n : Nat) :
    ∃ sl r, warmStart F s n = ({ s with sl := sl, lastWs := r.code }, r) ∧ r ≠ .nullState ∧ (r ≠ .ok → sl = s.sl) ∧
      (r = .ok → ∃ mp mn, sl = s.sl.warm F (s.cfg.field .slMsize 0 11) mp mn ∧ F.lt (F.sub mp mn) (minSpan F) = false) :=
  ⟨_, (warmCheck F s n).1, rfl, (warmCheck_spec F s n).1, fun h => if_neg h,
    fun h => ⟨(warmCheck F s n).2.1, (warmCheck F s n).2.2, if_pos h, (warmCheck_spec F s n).2 h⟩⟩

/-- What a CQPSK warm-start can do (R475): as `warmStart_spec`, but on OK only `center` and the derived fields change. -/
theorem warmStartCq_spec (F : RealFormat R) (s : State.Of R) (n : Nat) :
    ∃ sl r, warmStartCq F s n = ({ s with sl := sl, lastWs := r.code }, r) ∧ r ≠ .nullState ∧ (r ≠ .ok → sl = s.sl) ∧
      (r = .ok → ∃ mp mn, sl = s.sl.warmCq F mp mn ∧ F.lt (F.sub mp mn) (minSpan F) = false) :=
  ⟨_, (warmCheck F s n).1, rfl, (warmCheck_spec F s n).1, fun h => if_neg h,
    fun h => ⟨(warmCheck F s n).2.1, (warmCheck F s n).2.2, if_pos h, (warmCheck_spec F s n).2 h⟩⟩

/-! ## Permutation search -/

/-- What a permutation step can do (R520): nothing, or lock on a candidate. -/
theorem permStep_spec (p : Params R) (s : State.Of R) :
    permStep p s = s ∨ ∃ π ∈ permCandidates, permStep p s = { s with perm := π, permLock := true } := by
  unfold permStep
  simp only
  split
  · exact .inl rfl
  · split
    · exact .inl rfl
    · split
      · rename_i π hp
        exact .inr ⟨π, List.mem_of_find?_eq_some hp, rfl⟩
      · exact .inl rfl

end Sys2Proof.Machine
end

