-- ==== Sys2Proof/Laws/PerInstr.lean ====
section
/-! SUPPORT. Statements for every instruction, made per instruction. `RoundTrip`: what the encoder writes, the decoder reads
back, at every value the encoding admits; a stage operation is read back from its STAGE_EN value (R194). -/

namespace Sys2Proof.Laws.RoundTrip

/-- The words of a well-formed command, whatever words follow them on `CMD`, decode to it; the STAGE_EN value of a stage
operation selects it and no other. -/
def Statement (i : Instr) : Prop :=
  i.wellFormed = true →
    match i.stage with
    | none => ∀ rest, decode (encode i ++ rest) = .instr i
    | some k => encode i = [wordStage k] ∧ decodeStage (wordStage k) = some i

theorem nop : Statement .nop := by
  intro _ rest
  simp [encode, decode, decodeBare]

theorem csrw (csr : BitVec 12) (data : Word) : Statement (.csrw csr data) := by
  intro _ rest
  simp [encode, decode, decodeCsrw, decodeReg]

theorem csrr (csr : BitVec 12) : Statement (.csrr csr) := by
  intro _ rest
  simp [encode, decode, decodeReg]

theorem proc : Statement .proc := by
  intro _ rest
  simp [encode, decode, decodeBare]

theorem retuneReset : Statement .retuneReset := by
  intro _ rest
  simp [encode, decode, decodeBare]

theorem reset : Statement .reset := by
  intro _ rest
  simp [encode, decode, decodeBare]

theorem wstart (n : Nat) : Statement (.wstart n) := by
  intro h rest
  have hn : n < 65536 := by simpa [Instr.wellFormed, syncLenFits] using h
  simp [encode, decode, decodeImm, Nat.mod_eq_of_lt hn]

theorem wstartCq (n : Nat) : Statement (.wstartCq n) := by
  intro h rest
  have hn : n < 65536 := by simpa [Instr.wellFormed, syncLenFits] using h
  simp [encode, decode, decodeImm, Nat.mod_eq_of_lt hn]

theorem dmrRos : Statement .dmrRos := by
  intro _ rest
  simp [encode, decode, decodeBare]

theorem classify (id : Int) : Statement (.classify id) := by
  intro h rest
  have hn : -32768 ≤ id ∧ id < 32768 := by simpa [Instr.wellFormed, idFits] using h
  have hb : (BitVec.ofInt 16 id).toInt = id := by
    rw [BitVec.toInt_ofInt]
    exact Int.bmod_eq_of_le (by omega) (by omega)
  simp [encode, decode, decodeImm, hb]

theorem stageFs4 : Statement .stageFs4 := fun _ => ⟨rfl, by decide⟩

theorem stageHb : Statement .stageHb := fun _ => ⟨rfl, by decide⟩

theorem stageDcb : Statement .stageDcb := fun _ => ⟨rfl, by decide⟩

theorem stageAgc : Statement .stageAgc := fun _ => ⟨rfl, by decide⟩

theorem stageLim : Statement .stageLim := fun _ => ⟨rfl, by decide⟩

theorem stageIqb : Statement .stageIqb := fun _ => ⟨rfl, by decide⟩

theorem stageBefll : Statement .stageBefll := fun _ => ⟨rfl, by decide⟩

theorem stageCostas : Statement .stageCostas := fun _ => ⟨rfl, by decide⟩

theorem stageTed : Statement .stageTed := fun _ => ⟨rfl, by decide⟩

theorem stageEq : Statement .stageEq := fun _ => ⟨rfl, by decide⟩

theorem stageLfll : Statement .stageLfll := fun _ => ⟨rfl, by decide⟩

theorem stageDisc : Statement .stageDisc := fun _ => ⟨rfl, by decide⟩

theorem stageDeemph : Statement .stageDeemph := fun _ => ⟨rfl, by decide⟩

theorem stageChlpf : Statement .stageChlpf := fun _ => ⟨rfl, by decide⟩

theorem stageAlpf : Statement .stageAlpf := fun _ => ⟨rfl, by decide⟩

theorem stageResamp : Statement .stageResamp := fun _ => ⟨rfl, by decide⟩

theorem stageDiff : Statement .stageDiff := fun _ => ⟨rfl, by decide⟩

theorem stageSlice : Statement .stageSlice := fun _ => ⟨rfl, by decide⟩

theorem stageScan : Statement .stageScan := fun _ => ⟨rfl, by decide⟩

theorem stageWs : Statement .stageWs := fun _ => ⟨rfl, by decide⟩

theorem stageDmrRos : Statement .stageDmrRos := fun _ => ⟨rfl, by decide⟩

theorem stagePerm : Statement .stagePerm := fun _ => ⟨rfl, by decide⟩

end Sys2Proof.Laws.RoundTrip
end

