-- ==== Sys2Proof/Laws/Stages.lean ====
section
/-! SUPPORT. What each stage operation and each design step can change: the state after it is the state before it with
only the stage's own fields (and the block's stream) in new values. The later proofs cite these and do not unfold a
stage. -/

namespace Sys2Proof.Machine

variable {R : Type}

/-! ## Stage operations -/

theorem stageFs4_frame (F : RealFormat R) (s : State.Of R) :
    stageFs4 F s = { s with fs4n := (stageFs4 F s).fs4n, work := (stageFs4 F s).work } := by
  unfold stageFs4
  split <;> rfl

/-- Only the stream of the block in progress changes. -/
theorem stageFs4_work (F : RealFormat R) (s : State.Of R) :
    (stageFs4 F s).work = { s.work with xs := (stageFs4 F s).work.xs } := by
  unfold stageFs4
  split <;> rfl

theorem stageHb_frame (p : Params R) (s : State.Of R) :
    stageHb p s = { s with hb := (stageHb p s).hb, work := (stageHb p s).work } := by
  unfold stageHb
  split <;> rfl

/-- Only the stream of the block in progress changes. -/
theorem stageHb_work (p : Params R) (s : State.Of R) :
    (stageHb p s).work = { s.work with xs := (stageHb p s).work.xs } := by
  unfold stageHb
  split <;> rfl

theorem stageDcb_frame (F : RealFormat R) (s : State.Of R) :
    stageDcb F s = { s with dc := (stageDcb F s).dc, work := (stageDcb F s).work } := by
  unfold stageDcb
  split <;> rfl

/-- Only the stream of the block in progress changes. -/
theorem stageDcb_work (F : RealFormat R) (s : State.Of R) :
    (stageDcb F s).work = { s.work with xs := (stageDcb F s).work.xs } := by
  unfold stageDcb
  split <;> rfl

theorem stageAgc_frame (F : RealFormat R) (s : State.Of R) :
    stageAgc F s = { s with agc := (stageAgc F s).agc, work := (stageAgc F s).work } := by
  unfold stageAgc
  split <;> rfl

/-- Only the stream of the block in progress changes. -/
theorem stageAgc_work (F : RealFormat R) (s : State.Of R) :
    (stageAgc F s).work = { s.work with xs := (stageAgc F s).work.xs } := by
  unfold stageAgc
  split <;> rfl

theorem stageLim_frame (F : RealFormat R) (s : State.Of R) : stageLim F s = { s with work := (stageLim F s).work } := by
  unfold stageLim
  split <;> rfl

/-- Only the stream of the block in progress changes. -/
theorem stageLim_work (F : RealFormat R) (s : State.Of R) :
    (stageLim F s).work = { s.work with xs := (stageLim F s).work.xs } := by
  unfold stageLim
  split <;> rfl

theorem stageIqb_frame (F : RealFormat R) (s : State.Of R) :
    stageIqb F s = { s with iqb := (stageIqb F s).iqb, work := (stageIqb F s).work } := by
  unfold stageIqb
  split <;> rfl

/-- Only the stream of the block in progress changes. -/
theorem stageIqb_work (F : RealFormat R) (s : State.Of R) :
    (stageIqb F s).work = { s.work with xs := (stageIqb F s).work.xs } := by
  unfold stageIqb
  split <;> rfl

theorem stageBefll_frame (F : RealFormat R) (s : State.Of R) :
    stageBefll F s = { s with be := (stageBefll F s).be, work := (stageBefll F s).work } := by
  unfold stageBefll
  split <;> rfl

/-- Only the stream of the block in progress changes. -/
theorem stageBefll_work (F : RealFormat R) (s : State.Of R) :
    (stageBefll F s).work = { s.work with xs := (stageBefll F s).work.xs } := by
  unfold stageBefll
  split <;> rfl

theorem stageCostas_frame (F : RealFormat R) (s : State.Of R) :
    stageCostas F s = { s with cos := (stageCostas F s).cos, ted := (stageCostas F s).ted, work := (stageCostas F s).work } := by
  unfold stageCostas
  split <;> rfl

/-- Only the stream of the block in progress changes. -/
theorem stageCostas_work (F : RealFormat R) (s : State.Of R) :
    (stageCostas F s).work = { s.work with xs := (stageCostas F s).work.xs } := by
  unfold stageCostas
  split <;> rfl

theorem stageTed_frame (F : RealFormat R) (s : State.Of R) :
    stageTed F s = { s with ted := (stageTed F s).ted, work := (stageTed F s).work } := by
  unfold stageTed
  split <;> rfl

/-- Only the stream of the block in progress changes. -/
theorem stageTed_work (F : RealFormat R) (s : State.Of R) :
    (stageTed F s).work = { s.work with xs := (stageTed F s).work.xs } := by
  unfold stageTed
  split <;> rfl

theorem stageEq_frame (F : RealFormat R) (s : State.Of R) :
    stageEq F s = { s with eq := (stageEq F s).eq, work := (stageEq F s).work } := by
  unfold stageEq
  split <;> rfl

/-- Only the stream of the block in progress changes. -/
theorem stageEq_work (F : RealFormat R) (s : State.Of R) :
    (stageEq F s).work = { s.work with xs := (stageEq F s).work.xs } := by
  unfold stageEq
  split <;> rfl

theorem stageLfll_frame (F : RealFormat R) (s : State.Of R) :
    stageLfll F s = { s with lf := (stageLfll F s).lf, work := (stageLfll F s).work } := by
  unfold stageLfll
  split <;> rfl

/-- Only the stream of the block in progress changes. -/
theorem stageLfll_work (F : RealFormat R) (s : State.Of R) :
    (stageLfll F s).work = { s.work with xs := (stageLfll F s).work.xs } := by
  unfold stageLfll
  split <;> rfl

theorem stageDisc_frame (p : Params R) (s : State.Of R) :
    stageDisc p s = { s with discPrev := (stageDisc p s).discPrev, work := (stageDisc p s).work } := by
  unfold stageDisc
  split <;> rfl

/-- Only the stream of the block in progress changes. -/
theorem stageDisc_work (p : Params R) (s : State.Of R) :
    (stageDisc p s).work = { s.work with xs := (stageDisc p s).work.xs } := by
  unfold stageDisc
  split <;> rfl

/-- What one sample of the deemphasis can do: the output is the new state, the coefficient stays. -/
theorem deemphStep_spec (F : RealFormat R) (d : OnePole R) (x : R) :
    ∃ y, deemphStep F d x = ({ d with y := y }, y) := by
  unfold deemphStep
  split <;> exact ⟨_, rfl⟩

theorem stageDeemph_frame (F : RealFormat R) (s : State.Of R) :
    stageDeemph F s = { s with de := (stageDeemph F s).de, work := (stageDeemph F s).work } := by
  unfold stageDeemph
  split <;> rfl

/-- Only the stream of the block in progress changes. -/
theorem stageDeemph_work (F : RealFormat R) (s : State.Of R) :
    (stageDeemph F s).work = { s.work with xs := (stageDeemph F s).work.xs } := by
  unfold stageDeemph
  split <;> rfl

theorem stageChlpf_frame (F : RealFormat R) (s : State.Of R) :
    stageChlpf F s = { s with ch := (stageChlpf F s).ch, work := (stageChlpf F s).work } := by
  unfold stageChlpf
  split <;> rfl

/-- Only the stream of the block in progress changes. -/
theorem stageChlpf_work (F : RealFormat R) (s : State.Of R) :
    (stageChlpf F s).work = { s.work with xs := (stageChlpf F s).work.xs } := by
  unfold stageChlpf
  split <;> rfl

theorem stageAlpf_frame (F : RealFormat R) (s : State.Of R) :
    stageAlpf F s = { s with al := (stageAlpf F s).al, work := (stageAlpf F s).work } := by
  unfold stageAlpf
  split <;> rfl

/-- Only the stream of the block in progress changes. -/
theorem stageAlpf_work (F : RealFormat R) (s : State.Of R) :
    (stageAlpf F s).work = { s.work with xs := (stageAlpf F s).work.xs } := by
  unfold stageAlpf
  split <;> rfl

theorem stageResamp_frame (F : RealFormat R) (s : State.Of R) :
    stageResamp F s = { s with rs := (stageResamp F s).rs, work := (stageResamp F s).work } := by
  unfold stageResamp
  split <;> rfl

/-- Only the stream of the block in progress changes. -/
theorem stageResamp_work (F : RealFormat R) (s : State.Of R) :
    (stageResamp F s).work = { s.work with xs := (stageResamp F s).work.xs } := by
  unfold stageResamp
  split <;> rfl

theorem stageDiff_frame (F : RealFormat R) (s : State.Of R) :
    stageDiff F s = { s with diffPrev := (stageDiff F s).diffPrev, work := (stageDiff F s).work } := by
  unfold stageDiff
  split <;> rfl

/-- Only the stream of the block in progress changes. -/
theorem stageDiff_work (F : RealFormat R) (s : State.Of R) :
    (stageDiff F s).work = { s.work with xs := (stageDiff F s).work.xs } := by
  unfold stageDiff
  split <;> rfl

/-! ## Design steps -/

theorem designHb_frame (p : Params R) (s : State.Of R) :
    designHb p s = { s with hb := (designHb p s).hb, key := { s.key with hb := (designHb p s).key.hb } } := by
  unfold designHb
  dsimp only
  split <;> rfl

theorem designBe_frame (F : RealFormat R) (s : State.Of R) :
    designBe F s = { s with be := (designBe F s).be, key := { s.key with be := (designBe F s).key.be } } := by
  unfold designBe
  dsimp only
  split <;> rfl

theorem designTed_frame (F : RealFormat R) (s : State.Of R) :
    designTed F s = { s with ted := (designTed F s).ted, key := { s.key with ted := (designTed F s).key.ted } } := by
  unfold designTed
  dsimp only
  split <;> rfl

theorem designEq_frame (F : RealFormat R) (s : State.Of R) :
    designEq F s = { s with eq := (designEq F s).eq, key := { s.key with eq := (designEq F s).key.eq } } := by
  unfold designEq
  dsimp only
  split <;> rfl

theorem designDe_frame (F : RealFormat R) (s : State.Of R) :
    designDe F s = { s with de := (designDe F s).de, key := { s.key with de := (designDe F s).key.de } } := by
  unfold designDe
  dsimp only
  split <;> rfl

theorem designCh_frame (p : Params R) (s : State.Of R) :
    designCh p s = { s with ch := (designCh p s).ch, key := { s.key with ch := (designCh p s).key.ch } } := by
  unfold designCh
  dsimp only
  split <;> rfl

theorem designAl_frame (F : RealFormat R) (s : State.Of R) :
    designAl F s = { s with al := (designAl F s).al, key := { s.key with al := (designAl F s).key.al } } := by
  unfold designAl
  dsimp only
  split <;> rfl

theorem designRs_frame (F : RealFormat R) (s : State.Of R) :
    designRs F s = { s with rs := (designRs F s).rs, key := { s.key with rs := (designRs F s).key.rs } } := by
  unfold designRs
  dsimp only
  split <;> rfl

/-! ## The symbol chain -/

/-- The rolling update changes the slicer and the counter of the free values. -/
theorem rolling_frame (F : RealFormat R) (s : State.Of R) :
    rolling F s = { s with sl := (rolling F s).sl, free := (rolling F s).free } := rfl

/-- Re-digitization changes only the symbol history. -/
theorem redigitize_frame (p : Params R) (s : State.Of R) : ∃ sh, (redigitize p s).1 = { s with sh := sh } := ⟨_, rfl⟩

/-- The warm-start of either path changes the slicer and the recorded result. -/
theorem warmStartPath_frame (F : RealFormat R) (s : State.Of R) (n : Nat) :
    ∃ sl r, warmStartPath F s n = ({ s with sl := sl, lastWs := r.code }, r) ∧ r ≠ .nullState := by
  unfold warmStartPath
  split
  · obtain ⟨sl, r, h, hr, -⟩ := warmStartCq_spec F s n
    exact ⟨sl, r, h, hr⟩
  · obtain ⟨sl, r, h, hr, -⟩ := warmStart_spec F s n
    exact ⟨sl, r, h, hr⟩

/-- Resample-on-sync changes the DMR equalizer, the slicer, the warm-start record, the history and the counter of the
free values. -/
theorem dmrRos_frame (p : Params R) (s : State.Of R) :
    ∃ dmr sl lastWs sh free,
      (dmrRos p s).1 = { s with dmr := dmr, sl := sl, lastWs := lastWs, sh := sh, free := free } := by
  unfold dmrRos
  split
  · exact ⟨s.dmr, s.sl, s.lastWs, s.sh, s.free, rfl⟩
  · obtain ⟨sl, r, h, -⟩ := warmStartPath_frame p.real
      { s with
        dmr := { s.dmr with best := (bestPattern p s.free s.sh).1, bvalid := true }
        free := (bestPattern p s.free s.sh).2 } dmrSyncLen
    simp only [h]
    exact ⟨_, _, _, _, _, rfl⟩

/-- The warm-start of a detection changes the slicer, the recorded result and the work fields. -/
theorem stageWs_frame (F : RealFormat R) (s : State.Of R) :
    ∃ sl lastWs ws, stageWs F s = { s with sl := sl, lastWs := lastWs, work := { s.work with ws := ws } } := by
  unfold stageWs
  split
  · obtain ⟨sl, r, h, -⟩ := warmStartPath_frame F s s.work.syncLen
    rw [h]
    exact ⟨sl, r.code, r.code, rfl⟩
  · exact ⟨s.sl, s.lastWs, s.work.ws, rfl⟩

/-- The resample-on-sync of a detection changes what `dmrRos` changes, and the work fields. -/
theorem stageDmrRos_frame (p : Params R) (s : State.Of R) :
    ∃ dmr sl lastWs sh free ws ros,
      stageDmrRos p s =
        { s with
          dmr := dmr, sl := sl, lastWs := lastWs, sh := sh, free := free
          work := { s.work with ws := ws, ros := ros } } := by
  unfold stageDmrRos
  split
  · obtain ⟨dmr, sl, lastWs, sh, free, h⟩ := dmrRos_frame p s
    dsimp only
    rw [h]
    exact ⟨dmr, sl, lastWs, sh, free, _, _, rfl⟩
  · exact ⟨s.dmr, s.sl, s.lastWs, s.sh, s.free, s.work.ws, s.work.ros, rfl⟩

/-- The permutation step of the scanner changes the permutation and its lock. -/
theorem stagePerm_frame (p : Params R) (s : State.Of R) :
    stagePerm p s = { s with perm := (stagePerm p s).perm, permLock := (stagePerm p s).permLock } := by
  unfold stagePerm
  split
  · rcases permStep_spec p s with h | ⟨π, -, h⟩ <;> rw [h]
  · rfl

end Sys2Proof.Machine
end

