-- ==== Sys2Proof/Tests/Slice0.lean ====
section
/-! SUPPORT. Tests of one step or one operation each, with expected values from spec/95_test_vectors.md, and for each statement
with hypotheses a witness that meets them. -/

namespace Sys2Proof.Tests
open Sys2Proof Sys2Proof.Machine

set_option Elab.async false

/-! ## Helpers -/

/-- Does an outcome give a next state with a property? -/
def nextIs {R : Type} (o : Host.Outcome (State.Of R) Fault Refusal) (p : State.Of R → Bool) : Bool :=
  match o with
  | .next t => p t
  | .fault _ => false
  | .refused _ => false

/-- The reset state with words on `CMD`. -/
def onCmd (ws : List Word) : State := State.reset.withCommand ws

/-- The reset state with some CSRs changed, latched too. -/
def withCsrs (l : List (Rw × Word)) : State :=
  let f := l.foldl (fun f e => f.set e.1 e.2) CsrFile.reset
  { State.reset with csr := f, cfg := f }

/-- The reset state with a MODE and a STAGE_EN value, and a stream in the block in progress. -/
def onStream (mode en : Word) (xs : List C32) : State := (withCsrs [(.mode, mode), (.stageEn, en)]).withStream xs

/-- A small integer as a real stream element. -/
def re (n : Int) : C32 := ⟨F32.ofInt n, F32.zero⟩

/-- The imaginary unit. -/
def j : C32 := ⟨F32.zero, F32.one⟩

/-- The symbol history after some symbols, each an integer level. -/
def historyOf (l : List Int) : History F32 := l.foldl (fun h x => h.push (F32.ofInt x) 0#2 0#8) (History.reset .binary32)

/-- The ideal levels of the DMR BS voice sync. -/
def bsVoiceLevels : List Int := dmrBsVoice.map (fun d => if d = 1#2 then 3 else -3)

/-- A state with MODE 1, a STAGE_EN value and a symbol history. -/
def withHistory (en : Word) (l : List Int) : State := { withCsrs [(.stageEn, en)] with sh := historyOf l }

/-- A state whose sync record holds a type. -/
def withSync (s : State) (t : Int) : State := { s with sync := { s.sync with type := t } }

/-- `n` samples of I = 16384 in `IQ_IN`. -/
def withSamples (s : State) (n : Nat) : State :=
  { s with ports := { s.ports with iqIn := List.replicate n ⟨0x4000#16, 0#16⟩ } }

/-! ## WellFormed refuses what no encoding carries -/

theorem test_wellFormed_refuses_wstart_17_bits : (Instr.wstart 65536).wellFormed = false := by decide
theorem test_wellFormed_refuses_wstartCq_17_bits : (Instr.wstartCq 65536).wellFormed = false := by decide
theorem test_wellFormed_refuses_classify_above : (Instr.classify 32768).wellFormed = false := by decide
theorem test_wellFormed_refuses_classify_below : (Instr.classify (-32769)).wellFormed = false := by decide

/-! ## Words written out from the encoding tables (R181, R182, R184; R76 for the stage operations) -/

theorem test_decode_nop : decode [0b00000000_00000000_0000000000000000#32] = .instr .nop := by decide
theorem test_decode_csrw :
    decode [0b00000001_000000000010_000000000000#32, 0x00000002#32] = .instr (.csrw 0x002#12 2#32) := by decide
theorem test_decode_csrr : decode [0b00000010_000010000011_000000000000#32] = .instr (.csrr 0x083#12) := by decide
theorem test_decode_proc : decode [0b00010000_00000000_0000000000000000#32] = .instr .proc := by decide
theorem test_decode_retuneReset : decode [0b00100000_00000000_0000000000000000#32] = .instr .retuneReset := by decide
theorem test_decode_reset : decode [0b00100001_00000000_0000000000000000#32] = .instr .reset := by decide
theorem test_decode_wstart : decode [0b00110000_00000000_0000000000011000#32] = .instr (.wstart 24) := by decide
theorem test_decode_wstartCq : decode [0b00110001_00000000_0000100000000000#32] = .instr (.wstartCq 2048) := by decide
theorem test_decode_dmrRos : decode [0b00110010_00000000_0000000000000000#32] = .instr .dmrRos := by decide
theorem test_decode_classify : decode [0b01000000_00000000_1111111111111111#32] = .instr (.classify (-1)) := by decide
theorem test_decode_stageFs4 : decodeTableWord 32 0b10 = some .stageFs4 := by decide
theorem test_decode_stageHb : decodeTableWord 32 0b100 = some .stageHb := by decide
theorem test_decode_stageDcb : decodeTableWord 32 0b1000 = some .stageDcb := by decide
theorem test_decode_stageAgc : decodeTableWord 32 0b10000 = some .stageAgc := by decide
theorem test_decode_stageLim : decodeTableWord 32 0b100000 = some .stageLim := by decide
theorem test_decode_stageIqb : decodeTableWord 32 0b1000000 = some .stageIqb := by decide
theorem test_decode_stageBefll : decodeTableWord 32 0x80 = some .stageBefll := by decide
theorem test_decode_stageCostas : decodeTableWord 32 0x100 = some .stageCostas := by decide
theorem test_decode_stageTed : decodeTableWord 32 0x200 = some .stageTed := by decide
theorem test_decode_stageEq : decodeTableWord 32 0x400 = some .stageEq := by decide
theorem test_decode_stageLfll : decodeTableWord 32 0x800 = some .stageLfll := by decide
theorem test_decode_stageDisc : decodeTableWord 32 0x1000 = some .stageDisc := by decide
theorem test_decode_stageDeemph : decodeTableWord 32 0x2000 = some .stageDeemph := by decide
theorem test_decode_stageChlpf : decodeTableWord 32 0x4000 = some .stageChlpf := by decide
theorem test_decode_stageAlpf : decodeTableWord 32 0x8000 = some .stageAlpf := by decide
theorem test_decode_stageResamp : decodeTableWord 32 0x10000 = some .stageResamp := by decide
theorem test_decode_stageDiff : decodeTableWord 32 0x20000 = some .stageDiff := by decide
theorem test_decode_stageSlice : decodeTableWord 32 0x40000 = some .stageSlice := by decide
theorem test_decode_stageScan : decodeTableWord 32 0x80000 = some .stageScan := by decide
theorem test_decode_stageWs : decodeTableWord 32 0x100000 = some .stageWs := by decide
theorem test_decode_stageDmrRos : decodeTableWord 32 0x200000 = some .stageDmrRos := by decide
theorem test_decode_stagePerm : decodeTableWord 32 0x400000 = some .stagePerm := by decide
theorem test_word_bytes : wordBytes 0x01002000#32 = [0x00#8, 0x20#8, 0x00#8, 0x01#8] := by decide -- V-MEM-4
theorem test_iq_bytes : -- R149: I[7:0], I[15:8], Q[7:0], Q[15:8]
    IqSample.bytes ⟨0x1234#16, 0xABCD#16⟩ = [0x34#8, 0x12#8, 0xCD#8, 0xAB#8] := by decide

/-! ## Commands (V-ENC, V-ERR, V-SL, V-ROS, V-CLS) -/

theorem test_nop_answers : nextIs (step (onCmd [0#32])) (fun t => t.ports.resp == [0#32] && t.ports.cmd == []) = true := by
  decide +kernel
theorem test_nop_malformed :
    nextIs (step (onCmd [1#32])) (fun t => t.ports.resp == [0x02000000#32] && t.status == 0x00000201#32) = true := by
  decide +kernel
theorem test_csrw_mode : nextIs (step (onCmd [0x01002000#32, 2#32]))
    (fun t => t.ports.resp == [0#32] && t.csr.mode == 2#32 && t.cfg.mode == 1#32) = true := by decide +kernel
theorem test_csrw_raw_mode_refused : nextIs (step (onCmd [0x01002000#32, 4#32]))
    (fun t => t.ports.resp == [0x05000000#32] && t.status == 0x00000501#32 && t.csr.mode == 1#32) = true := by
  decide +kernel
theorem test_csrr_id : nextIs (step (onCmd [0x02000000#32])) (fun t => t.ports.resp == [0#32, 0x44534E05#32]) = true := by
  decide +kernel
theorem test_csrr_unmapped : nextIs (step (onCmd [0x02006000#32]))
    (fun t => t.ports.resp == [0x03000000#32] && t.status == 0x00000301#32) = true := by decide +kernel
theorem test_proc_bad_config :
    nextIs (exec .proc { withCsrs [(.stageEn, 0x4000#32)] with rr := true })
      (fun t => t.ports.resp == [0x06000000#32] && t.status == 0x00000603#32) = true := by decide +kernel -- V-RST-4
theorem test_proc_fm_audio : -- P5
    nextIs (exec .proc { withCsrs [(.mode, 0#32), (.stageEn, 0x1000#32), (.blockLen, 3#32)] with
        ports := { Ports.empty with iqIn := [⟨0x4000#16, 0#16⟩, ⟨0#16, 0x4000#16⟩, ⟨0xC000#16, 0#16⟩] } })
      (fun t => t.ports.audioOut == [0#16, 0x4000#16, 0x4000#16] && t.ports.symOut == [] && t.ports.resp == [0#32]
        && t.discPrev.re == F32.ofRat (-1) 2) = true := by decide +kernel
theorem test_proc_all_off_pushes_nothing : -- R223, in MODE 0
    nextIs (exec .proc (withSamples (withCsrs [(.mode, 0#32), (.stageEn, 0#32), (.blockLen, 1#32)]) 2))
      (fun t => t.ports.audioOut == [] && t.ports.iqIn.length == 1 && t.ports.resp == [0#32]) = true := by decide +kernel
theorem test_retuneReset : nextIs (step (onCmd [0x20000000#32]))
    (fun t => t.ports.resp == [0#32] && t.status == 0x00000002#32) = true := by decide +kernel
theorem test_reset_keeps_ports :
    nextIs (exec .reset (withSamples (withCsrs [(.mode, 2#32)]) 3))
      (fun t => t.csr.mode == 1#32 && t.ports.iqIn.length == 3) = true := by decide +kernel
theorem test_wstart_span : -- V-SL-10
    nextIs (exec (.wstart 4) (withHistory 0x140000#32 [3, 0, -1, 0]))
      (fun t => t.ports.resp == [0#32] && t.sl.max == F32.ofInt 3 && t.sl.center == F32.one
        && t.sl.umid == F32.ofRat 9 4 && t.sl.lmid == F32.ofRat (-1) 4 && t.sl.fill == 15) = true := by decide +kernel
theorem test_wstart_too_long : nextIs (step (onCmd [0x30000801#32]))
    (fun t => t.ports.resp == [0x05000000#32]) = true := by decide +kernel -- V-ERR-10
theorem test_wstartCq_center_only :
    nextIs (exec (.wstartCq 2) (withHistory 0x140000#32 [3, -1]))
      (fun t => t.sl.center == F32.one && t.sl.max == F32.zero && t.lastWs == 0#3) = true := by decide +kernel
theorem test_wstartCq_no_history : nextIs (exec (.wstartCq 3) (withHistory 0x140000#32 [3, -1]))
    (fun t => t.ports.resp == [2#32] && t.lastWs == 2#3) = true := by decide +kernel -- V-SL-9
theorem test_dmrRos_bs_voice : -- V-ROS-1
    nextIs (exec .dmrRos (withHistory 0x140000#32 bsVoiceLevels))
      (fun t => t.ports.resp == [0x00000090#32] && t.dmr.gain == F32.one && t.dmr.init
        && t.sl.umid == F32.ofRat 15 8) = true := by decide +kernel
theorem test_dmrRos_23_symbols : -- V-ROS-5
    nextIs (exec .dmrRos (withHistory 0x140000#32 (bsVoiceLevels.drop 1)))
      (fun t => t.ports.resp == [0x00000002#32] && t.ports.syncOut == [] && t.lastWs == 0#3) = true := by decide +kernel
theorem test_classify_1 : nextIs (exec (.classify 1) State.reset) (fun t => t.ports.resp == [0x00000401#32]) = true := by
  decide +kernel
theorem test_classify_none : nextIs (exec (.classify (-1)) State.reset) (fun t => t.ports.resp == [0#32]) = true := by
  decide +kernel

/-! ## Stage operations on a short stream (95_test_vectors.md sections 2.5 to 2.11) -/

theorem test_stageFs4 : nextIs (exec .stageFs4 (onStream 1#32 0x2#32 [re 1, re 1]))
    (fun t => t.work.xs.length == 2 && (t.work.xs.getD 1 C32.zero).im == F32.one && t.fs4n == 2) = true := by
  decide +kernel
theorem test_stageHb : -- V-HB-1, first two outputs
    nextIs (exec .stageHb ({ onStream 1#32 0x4#32 [re 1, re 1, re 1, re 1] with
        cfg := (onStream 1#32 0x4#32 []).cfg.set .hbStages 1#32 }))
      (fun t => t.work.xs.map (fun z => z.re) == [F32.ofRat (-1) 32, F32.ofRat 3 4]) = true := by decide +kernel
theorem test_stageDcb : -- the example of R275
    nextIs (exec .stageDcb { onStream 1#32 0x8#32 [re 1] with cfg := (onStream 1#32 0x8#32 []).cfg.set .dcbK 10#32 })
      (fun t => t.work.xs == [⟨F32.ofRat 1023 1024, F32.zero⟩] && t.dc.re == F32.ofRat 1 1024) = true := by
  decide +kernel
theorem test_stageAgc : -- V-AGC-1
    nextIs (exec .stageAgc (onStream 1#32 0x10#32 [re 1]))
      (fun t => t.work.xs == [⟨⟨0x3F80B333#32⟩, F32.zero⟩] && t.agc.p == F32.ofRat 1 64) = true := by decide +kernel
theorem test_stageLim : -- V-LIM-1, V-LIM-2, V-LIM-3
    nextIs (exec .stageLim (onStream 1#32 0x20#32 [re 1, ⟨F32.ofRat 15 100, F32.zero⟩, re 0]))
      (fun t => t.work.xs.map (fun z => z.re) == [F32.ofRat 3 10, F32.ofRat 15 100, F32.zero]) = true := by
  decide +kernel
theorem test_stageIqb : -- V-IQB-1, V-IQB-2
    nextIs (exec .stageIqb (onStream 1#32 0x40#32 [re 1, j]))
      (fun t => (t.work.xs.getD 0 C32.zero).re == F32.ofRat 1 2 && (t.work.xs.getD 1 C32.zero).im == F32.one
        && t.iqb.c.re == F32.ofRat (-1) (2 ^ 20)) = true := by decide +kernel
theorem test_stageBefll_zero : -- the example of R312
    nextIs (exec .stageBefll (design Params.default (onStream 2#32 0x80#32 [re 0])))
      (fun t => t.be.freq.isZero && t.be.phase.isZero && t.be.h.length == 10) = true := by decide +kernel
theorem test_stageTed : -- V-TED-1
    nextIs (exec .stageTed ({ onStream 1#32 0x200#32 [re 0, re 1, re 2, re 3, re 4, re 5] with
        cfg := (onStream 1#32 0x200#32 []).cfg.set .tedGainQ20 0#32 }))
      (fun t => t.work.xs.map (fun z => z.re) == [F32.ofInt 4] && t.ted.t == F32.ofInt 4) = true := by decide +kernel
theorem test_stageCostas_first_symbol : -- V-COS-1 with a symbol on the axis
    nextIs (exec .stageCostas { onStream 2#32 0x100#32 [j] with ted := { State.reset.ted with t := F32.one } })
      (fun t => t.work.xs == [j] && t.cos.init && t.cos.error == F32.zero) = true := by decide +kernel
theorem test_costasPd : -- V-PD-1
    costasPd .binary32 ⟨F32.one, F32.one⟩ = F32.one ∧
      costasPd .binary32 ⟨F32.neg F32.one, F32.one⟩ = F32.neg F32.one := by decide +kernel
theorem test_stageEq_delay : -- V-EQ-1
    nextIs (exec .stageEq (design Params.default { onStream 2#32 0x400#32 [re 1, j, re (-1)] with
        cfg := (onStream 2#32 0x400#32 []).cfg.set .eqCfg 0x00080003#32 }))
      (fun t => t.work.xs.map C32.norm == [F32.zero, F32.one, F32.one]
        && (t.work.xs.getD 1 C32.zero).re == F32.one) = true := by decide +kernel
theorem test_stageEq_lms : -- V-EQ-2
    nextIs (exec .stageEq (design Params.default { onStream 2#32 0x400#32 [⟨F32.ofRat 1 2, F32.zero⟩] with
        cfg := ((onStream 2#32 0x400#32 []).cfg.set .eqCfg 0x00082001#32).set .eqCmaWarmup 0#32 }))
      (fun t => (t.eq.w.getD 0 C32.zero).re == F32.ofRat 1001953125 1000000000) = true := by decide +kernel
theorem test_stageLfll_inert : -- V-LFLL-4
    nextIs (exec .stageLfll (onStream 1#32 0x800#32 [re 1, j]))
      (fun t => t.lf.freq.isZero && t.lf.prev.im == F32.one && t.work.xs.length == 2) = true := by decide +kernel
theorem test_stageDisc : -- V-DISC-1, V-DISC-2
    nextIs (exec .stageDisc (onStream 1#32 0x1000#32 [re 1, j, ⟨F32.zero, F32.neg F32.one⟩]))
      (fun t => t.work.xs.map (fun z => z.re) == [F32.zero, F32.ofRat 1 2, F32.one]) = true := by decide +kernel
theorem test_stageDeemph : -- V-DE-5
    nextIs (exec .stageDeemph { onStream 1#32 0x2000#32 [re 1, re 1] with de := ⟨F32.zero, F32.ofRat 1 4⟩ })
      (fun t => t.work.xs.map (fun z => z.re) == [F32.ofRat 1 4, F32.ofRat 7 16]) = true := by decide +kernel
theorem test_stageDeemph_coefficient_1 : -- V-DE-4: the identity, where the rounded formula would give 0
    nextIs (exec .stageDeemph { onStream 1#32 0x2000#32 [⟨F32.ofRat 1 (2 ^ 30), F32.zero⟩] with de := ⟨F32.one, F32.one⟩ })
      (fun t => t.work.xs == [⟨F32.ofRat 1 (2 ^ 30), F32.zero⟩] && t.de.y == F32.ofRat 1 (2 ^ 30)) = true := by
  decide +kernel
theorem test_stageChlpf :
    nextIs (exec .stageChlpf { onStream 1#32 0x4000#32 [re 1, re 2] with
        ch := ⟨[F32.ofInt 2, F32.ofInt 3, F32.ofInt 5], [C32.zero, C32.zero]⟩ })
      (fun t => t.work.xs.map (fun z => z.re) == [F32.ofInt 2, F32.ofInt 7]) = true := by decide +kernel
theorem test_channel_ntaps : -- V-CH-1, Hamming
    (withCsrs [(.fsIn, 48000#32), (.chlpfTw0, 2000#32)]).cfg.chNtaps Params.default = 59 := by decide +kernel
theorem test_stageAlpf :
    nextIs (exec .stageAlpf { onStream 1#32 0x8000#32 [re 1] with al := ⟨F32.zero, F32.ofRat 1 4⟩ })
      (fun t => t.al.y == F32.ofRat 1 4) = true := by decide +kernel
theorem test_stageResamp : -- V-RS-5: two outputs of four inputs
    nextIs (exec .stageResamp { onStream 1#32 0x10000#32 [re 1, re 1, re 1, re 1] with
        cfg := (onStream 1#32 0x10000#32 []).cfg.set .rsM 2#32 })
      (fun t => t.work.xs.length == 2 && t.rs.acc == 0) = true := by decide +kernel
theorem test_stageDiff : -- V-DIFF-1
    nextIs (exec .stageDiff (onStream 2#32 0x20000#32 [re 1, j]))
      (fun t => (t.work.xs.getD 1 C32.zero).im == F32.one && t.diffPrev == j) = true := by decide +kernel
theorem test_stageSlice_first : -- V-SL-5, index 0
    nextIs (exec .stageSlice (onStream 1#32 0x40000#32 [re 3]))
      (fun t => t.ports.symOut == [⟨1#2, 0#8, F32.ofInt 3, 0#32⟩] && t.sl.umid == F32.ofInt 3 && t.symcount == 1#32)
      = true := by decide +kernel
theorem test_stageSlice_cqpsk : -- P4, index 1
    nextIs (exec .stageSlice (onStream 2#32 0x40000#32 [⟨F32.ofRat (-1) 4, F32.ofRat 1 4⟩]))
      (fun t => t.ports.symOut == [⟨1#2, 127#8, F32.ofInt 3, 0#32⟩] && t.sl == Slicer.reset .binary32) = true := by decide +kernel
theorem test_stageScan_p25p1 : -- the example of R512
    nextIs (exec .stageScan { withCsrs [(.stageEn, 0x80000#32)] with
        sync := { State.reset.sync with sr := p25p1Pattern.reverse.drop 1 ++ List.replicate 41 0#2, srn := 23 }
        work := { (Work.idle : Work F32) with d := 3#2 }, symcount := 24#32 })
      (fun t => t.ports.syncOut == [⟨0, 23#32, 7#3, 0#8, none⟩] && t.sync.srn == 0) = true := by decide +kernel
/-- The parameters with a pattern of eight dibits 1 supplied for the OPEN row of NXDN (ID 28, protocol bit 7). -/
def nxdnSupplied : Params F32 :=
  { Params.default with syncTable := Params.default.syncTable.map (fun e =>
      if e.normalId = 28 then { e with pattern := some (List.replicate 8 1#2) } else e) }

theorem test_stageScan_open_row_supplied : -- R505, R506: it matches once supplied, and never before; SYNC_LEN stays 10
    let s := { withCsrs [(.stageEn, 0x80000#32), (.syncProtoEn, 0x80#32)] with
      sync := { State.reset.sync with sr := List.replicate 7 1#2 ++ List.replicate 57 0#2, srn := 7 }
      work := { (Work.idle : Work F32) with d := 1#2 } }
    nextIs (execWith nxdnSupplied .stageScan s) (fun t => t.sync.type == 28 && t.work.syncLen == 10) = true ∧
      nextIs (exec .stageScan s) (fun t => t.sync.type == -1 && t.sync.srn == 8) = true := by decide +kernel
theorem test_stageWs_disabled : nextIs (exec .stageWs (withHistory 0x40000#32 [3, -3])) (fun t => t.lastWs == 0#3) = true := by
  decide +kernel
theorem test_stageWs_no_history :
    nextIs (exec .stageWs { withHistory 0x140000#32 [3, -3] with work := { (Work.idle : Work F32) with syncLen := 24 } })
      (fun t => t.lastWs == 2#3 && t.work.ws == 2#3) = true := by decide +kernel
theorem test_stageDmrRos : nextIs (exec .stageDmrRos (withHistory 0x300000#32 bsVoiceLevels))
    (fun t => t.work.ros == some ⟨1, []⟩ && t.work.ws == 0#3) = true := by decide +kernel
theorem test_stagePerm_rotation : -- V-PERM-2
    nextIs (exec .stagePerm { withCsrs [(.mode, 2#32), (.stageEn, 0x400000#32)] with
        sync := { State.reset.sync with
          sr := (p25p1Pattern.map (Perm.apply ⟨2#2, 0#2, 3#2, 1#2⟩)).reverse ++ List.replicate 40 0#2, srn := 24 } })
      (fun t => t.perm == ⟨1#2, 3#2, 0#2, 2#2⟩ && t.permLock) = true := by decide +kernel
theorem test_bs_data_is_inverted_bs_voice : invertPattern true dmrBsVoice = dmrBsData := by decide
theorem test_candidates_are_all_permutations : permCandidates.Nodup ∧ permCandidates.length = 24 := by decide

/-! ## Arithmetic and ports -/

theorem test_real_third : F32.div F32.one (F32.ofInt 3) = ⟨0x3EAAAAAB#32⟩ := by decide +kernel
theorem test_real_overflow : F32.add ⟨0x7F7FFFFF#32⟩ ⟨0x7F7FFFFF#32⟩ = ⟨0x7F800000#32⟩ := by decide +kernel
theorem test_iq_conversion : -- V-MEM-3
    IqSample.toCplx .binary32 ⟨0x8000#16, 0x7FFF#16⟩ = ⟨F32.ofInt (-1), F32.ofRat 32767 32768⟩ := by decide +kernel
theorem test_input_drops_new : (List.range 10).foldl (appendDropNew 8) [] = [0, 1, 2, 3, 4, 5, 6] := by decide -- V-MEM-1
theorem test_audio_drops_old : (List.range 5).foldl (appendDropOld 4) [] = [2, 3, 4] := by decide -- V-MEM-2
theorem test_band_edge_gain : beOmega .binary32 5 = F32.div F32.twoPi (F32.ofInt 1250) := by decide +kernel -- R311

/-! ## Another format REAL -/

/-- Exact rational numbers as a format (D4 names an exact REAL), with `sin` and the like left at 0: enough for the stages
that only add, multiply, divide and compare. -/
def rational : RealFormat ℚ where
  zero := 0
  one := 1
  ofInt := fun n => n
  ofNat := fun n => n
  ofRat := fun n d => mkRat n d
  ofBinary32 := fun x => mkRat x.units (2 ^ 149)
  toBinary32 := fun x => F32.ofRat x.num x.den
  pi := 355 / 113
  twoPi := 710 / 113
  nan := 0
  isNan := fun _ => false
  isInf := fun _ => false
  isNeg := fun x => decide (x < 0)
  lt := fun x y => decide (x < y)
  le := fun x y => decide (x ≤ y)
  eqv := fun x y => decide (x = y)
  neg := fun x => -x
  abs := fun x => if x < 0 then -x else x
  add := fun x y => x + y
  sub := fun x y => x - y
  mul := fun x y => x * y
  div := fun x y => x / y
  sqrt := fun _ => 0
  exp := fun _ => 0
  sin := fun _ => 0
  cos := fun _ => 0
  atan2 := fun _ _ => 0
  floorQuot := fun x y => if y = 0 then none else some (x / y).floor
  roundHalfEven := fun x => (x + 1 / 2).floor
  wrap := fun x => x
  windowExtreme := fun _ => 0
  marginOfNan := fun a _ _ => a
  relOfNan := fun _ _ => 0#8

theorem test_other_format_keeps_what_binary32_rounds : -- a DC estimate of 1 + 2^-40, which binary32 cannot hold
    let p := Params.ofFormat rational (fun _ _ => 0)
    let s := { State.resetWith p with cfg := (withCsrs [(.stageEn, 0x8#32)]).cfg.set .dcbK 10#32 }
    nextIs (execWith p .stageDcb { s with dc := ⟨1 + 1 / 2 ^ 40, 0⟩, work := { s.work with xs := [⟨1, 0⟩] } })
      (fun t => t.dc.re == 1 + 1023 / 2 ^ 50) = true := by decide +kernel

/-! ## Witnesses: states and operands that meet the hypotheses of each statement, clause by clause -/

/-- An equalizer state for the one-tap statement: LMS on, warmup over. -/
def oneTap : State :=
  { withCsrs [(.mode, 2#32), (.stageEn, 0x400#32), (.eqCfg, 0x00082001#32)] with
    eq := { State.reset.eq with lmsPrev := true }
    work := { (Work.idle : Work F32) with xs := [re 2] } }

/-- A scanner state on the CQPSK path with the permutation search on and 24 dibits in the register. -/
def searching (l : List Dibit) : State :=
  { withCsrs [(.mode, 2#32), (.stageEn, 0x400000#32)] with
    sync := { State.reset.sync with sr := l.reverse ++ List.replicate 40 0#2, srn := 24 } }

/-- The distance of R520, as `Obligations.PermutationSearchStep` writes it, with SYNC_POL 0. -/
def hamming (s : State) (p : Perm) : Nat :=
  ((List.range 24).filter (fun i =>
    decide ([p.p0, p.p1, p.p2, p.p3].getD (s.sync.sr.getD (23 - i) 0#2).toNat 0#2
      ≠ BitVec.ofNat 2 (0x5575F5FF77FF / 4 ^ (23 - i))))).length

theorem witness_DecodeEncodeCommands :
    (Instr.wstart 65535).wellFormed = true ∧ (Instr.wstart 65535).stage = none ∧
      (Instr.classify (-32768)).wellFormed = true ∧ (Instr.classify (-32768)).stage = none := by decide
theorem witness_EncodeDecodeCommands : decode [0x40007FFF#32, 5#32] = .instr (.classify 32767) := by decide
theorem witness_StageWordsNameStages :
    Instr.stagePerm.stage = some .perm ∧ stageSelected 0x400000#32 .stagePerm = true := by decide
theorem witness_StepRunsDecodedInstruction : decode (onCmd [0#32]).ports.cmd = .instr .nop ∧
    Instr.nop ∉
      [Instr.proc, .reset, .dmrRos, .stageHb, .stageDisc, .stageSlice, .stageScan, .stageDmrRos, .stagePerm] := by decide
theorem witness_IllegalOpcodeStep :
    (onCmd [0x03000000#32]).ports.cmd = 0x03000000#32 :: [] ∧
      (0x03000000#32).extractLsb' 24 8 ∉
        [0x00#8, 0x01#8, 0x02#8, 0x10#8, 0x20#8, 0x21#8, 0x30#8, 0x31#8, 0x32#8, 0x40#8] := by decide
theorem witness_MalformedCommandStep_csrw :
    (onCmd [0x01002001#32, 2#32]).ports.cmd = 0x01002001#32 :: [2#32] ∧ (0x01002001#32).extractLsb' 24 8 = Op.csrw.code ∧
      [2#32] ≠ [] ∧ (0x01002001#32).extractLsb' 0 12 ≠ 0#12 := by decide
theorem witness_MalformedCommandStep_wstart :
    (onCmd [0x30010000#32]).ports.cmd = 0x30010000#32 :: [] ∧ (0x30010000#32).extractLsb' 24 8 = Op.wstart.code ∧
      (Op.wstart = .csrw → ([] : List Word) ≠ []) ∧ (0x30010000#32).extractLsb' 16 8 ≠ 0#8 := by decide
theorem witness_MalformedCommandStep_proc :
    (onCmd [0x10000001#32]).ports.cmd = 0x10000001#32 :: [] ∧ (0x10000001#32).extractLsb' 24 8 = Op.proc.code ∧
      (Op.proc = .csrw → ([] : List Word) ≠ []) ∧ (0x10000001#32).extractLsb' 0 24 ≠ 0#24 := by decide
theorem witness_WaitingChangesNothing :
    State.reset.ports.cmd = [] ∧ (onCmd [0x01002000#32]).ports.cmd = [0x01002000#32] ∧
      (0x01002000#32).extractLsb' 24 8 = 0x01#8 ∧ (withSamples State.reset 16383).csr.configOk Params.default = true ∧
      (withSamples State.reset 16383).ports.iqIn.length
        < ((withSamples State.reset 16383).csr.get .blockLen).toNat % 2 ^ 19 := by decide +kernel
theorem witness_NopStep :
    (onCmd [0#32]).ports.cmd = 0#32 :: [] ∧ (0#32).extractLsb' 24 8 = 0x00#8 ∧
      (onCmd [0x00800000#32]).ports.cmd = 0x00800000#32 :: [] ∧ (0x00800000#32).extractLsb' 24 8 = 0x00#8 := by decide
theorem witness_CsrwStoresLegalValue :
    Rw.legal .blockLen 262144#32 = true ∧ Rw.legal .blockLen 1#32 = true ∧ Rw.slMsize ≠ Rw.blockLen ∧
      Rw.legal .agcTarget 0x7F7FFFFF#32 = true ∧ Rw.legal .agcTarget 0#32 = false ∧
      Rw.legal .agcMin 0x80000000#32 = true ∧ Rw.legal .agcAttack 0x3F800001#32 = false := by decide +kernel
theorem witness_CsrAccessRefusals_unmapped :
    ∀ a ∈ [0x006#12, 0x0A2#12], a ∉
      [0x000#12, 0x001#12, 0x002#12, 0x003#12, 0x004#12, 0x005#12, 0x007#12, 0x008#12, 0x010#12, 0x011#12,
       0x012#12, 0x013#12, 0x014#12, 0x015#12, 0x018#12, 0x019#12, 0x01A#12, 0x01B#12, 0x020#12, 0x021#12,
       0x022#12, 0x023#12, 0x028#12, 0x029#12, 0x02A#12, 0x02B#12, 0x02C#12, 0x02D#12, 0x030#12, 0x031#12] ++
      [0x038#12, 0x039#12, 0x03A#12, 0x03B#12, 0x03C#12, 0x03D#12, 0x03E#12, 0x03F#12, 0x040#12, 0x041#12,
       0x042#12, 0x043#12, 0x044#12, 0x048#12, 0x049#12, 0x050#12, 0x051#12, 0x052#12, 0x053#12, 0x054#12,
       0x055#12, 0x056#12, 0x058#12, 0x059#12, 0x05A#12, 0x05B#12, 0x05C#12, 0x05D#12, 0x060#12, 0x061#12] ++
      [0x062#12, 0x063#12, 0x068#12, 0x070#12, 0x071#12, 0x072#12, 0x073#12, 0x074#12, 0x075#12, 0x076#12,
       0x077#12, 0x078#12, 0x079#12, 0x07A#12, 0x07B#12, 0x080#12, 0x081#12, 0x082#12, 0x083#12, 0x084#12,
       0x085#12, 0x086#12, 0x088#12, 0x089#12, 0x08A#12, 0x0A0#12, 0x0A1#12] := by decide +kernel
theorem witness_CsrAccessRefusals :
    nextIs (exec (.csrw 0x006#12 0#32) State.reset) (fun t => t.lastErr == 0x03#8) = true ∧
      nextIs (exec (.csrr 0x0A2#12) State.reset) (fun t => t.lastErr == 0x03#8) = true ∧
      nextIs (exec (.csrw 0x0A1#12 0#32) State.reset) (fun t => t.lastErr == 0x04#8) = true ∧
      Rw.legal .blockLen 0#32 = false ∧ Rw.legal .blockLen 262145#32 = false := by decide +kernel
theorem witness_CsrrReads : -- tap 30 of bank 0, tap 4 of bank 2, buffer entry 1023; a value that is not a NaN and one that is
    (CsrFile.reset.set .eqTapSel 30#32).field .eqTapSel 0 5 = 30 ∧
      (CsrFile.reset.set .eqTapSel 0x204#32).field .eqTapSel 8 2 = 2 ∧
      (CsrFile.reset.set .slBufSel 0x103FF#32).field .slBufSel 0 10 = 1023 ∧
      F32.isNan State.reset.ted.omega = false ∧ F32.nan.isNan = true := by decide +kernel
theorem witness_RealCsrRefusesNonFinite :
    Rw.agcTarget ∈ [Rw.agcTarget] ∧ (0x7F800000#32).extractLsb' 23 8 = 0xFF#8 ∧
      (0xFFFFFFFF#32).extractLsb' 23 8 = 0xFF#8 := by decide
theorem witness_ProcRefusesBadConfig :
    (withCsrs [(.stageEn, 0x2000#32)]).csr.configOk Params.default = false ∧ -- (a) DEEMPH, FS_IN 0
    (withCsrs [(.stageEn, 0x4000#32), (.fsIn, 48000#32), (.chlpfTw0, 16000#32), (.chlpfFc0, 24000#32)]).csr.configOk
        Params.default
      = false ∧ -- (b) FC = fs_mid/2
    (withCsrs [(.stageEn, 0x4000#32), (.fsIn, 48000#32), (.chlpfTw0, 16000#32), (.chlpfFc0, 23999#32)]).csr.configOk
        Params.default
      = true ∧
    [(0#32, 1023#32), (0x400#32, 1023#32), (0#32, 113#32), (0#32, 114#32)].map (fun e => -- 1023 taps fit, 1025 do not
        (withCsrs [(.stageEn, 0x4000#32), (.fsIn, 48000#32), (.chlpfFc0, 12000#32), (.chlpfCfg, e.1),
          (.chlpfTw0, e.2)]).csr.configOk Params.default) = [true, true, false, true] ∧
    (withCsrs [(.stageEn, 0x8000#32), (.fsIn, 48000#32)]).csr.configOk Params.default = false := by decide +kernel -- (c) ALPF_FC 0
theorem witness_ProcCompletes :
    (withSamples (withCsrs [(.blockLen, 2#32)]) 2).csr.configOk Params.default = true ∧
      ((withSamples (withCsrs [(.blockLen, 2#32)]) 2).csr.get .blockLen).toNat % 2 ^ 19
        ≤ (withSamples (withCsrs [(.blockLen, 2#32)]) 2).ports.iqIn.length := by decide +kernel
theorem witness_ProcCountsSymbols : -- two symbols are sliced
    nextIs (exec .proc (withSamples (withCsrs [(.blockLen, 2#32), (.stageEn, 0x40000#32)]) 2))
      (fun t => t.ports.resp == [2#32] && t.symcount == 2#32
        && t.ports.symOut.map (fun e => e.idx) == [0#32, 1#32]) = true := by decide +kernel
theorem witness_ProcRunsStageInstructions :
    (withCsrs [(.mode, 2#32)]).cfg.cqpsk = true ∧ State.reset.cfg.cqpsk = false ∧
      (withSamples (withCsrs [(.blockLen, 1#32)]) 1).csr.configOk Params.default = true ∧
      (withSamples (withCsrs [(.blockLen, 1#32)]) 1).csr.blockLength
        ≤ (withSamples (withCsrs [(.blockLen, 1#32)]) 1).ports.iqIn.length := by decide +kernel
theorem witness_ProcWithStagesOffAppliesRetune :
    [true, false].all (fun b => [0#32, 2#32, 3#32].all (fun m =>
      let s := { withSamples (withCsrs [(.mode, m), (.stageEn, 0#32), (.blockLen, 1#32)]) 1 with rr := b }
      s.csr.get .stageEn &&& 0x007FFFFE#32 == 0#32 && (s.csr.get .blockLen).toNat % 2 ^ 19 ≤ s.ports.iqIn.length
        && s.rr == b)) = true := by decide +kernel
theorem witness_FmAudioPassesSample : -- modes 0 and 1, every stage off, SLICE alone, DISC on; three samples
    [0#32, 1#32].all (fun m => [0#32, 0x40000#32, 0x1000#32].all (fun e =>
      let s := withSamples (withCsrs [(.mode, m), (.stageEn, e), (.blockLen, 3#32)]) 3
      s.csr.configOk Params.default && (s.csr.get .blockLen).toNat % 2 ^ 19 ≤ s.ports.iqIn.length
        && s.ports.audioOut.length ≤ 65535
        && (s.csr.get .stageEn &&& 0x007FFFFE#32 == 0#32) == (e == 0#32)
        && (s.csr.get .stageEn &&& 0x0001F87E#32 == 0#32) == (e != 0x1000#32))) = true := by decide +kernel
theorem witness_FmAudioPassesSample_passes :
    nextIs (exec .proc (withSamples (withCsrs [(.mode, 0#32), (.stageEn, 0x40000#32), (.blockLen, 3#32)]) 3))
      (fun t => t.ports.audioOut == [0x4000#16, 0x4000#16, 0x4000#16]) = true := by decide +kernel
theorem witness_ProcDesignsEnabledSets : -- every set enabled on some path, with a new key
    let s := withSamples (withCsrs [(.blockLen, 1#32), (.stageEn, 0x1E004#32), (.hbStages, 1#32), (.fsIn, 96000#32),
      (.chlpfFc0, 12000#32), (.chlpfTw0, 16000#32), (.alpfFc, 3000#32)]) 1
    let q := withSamples (withCsrs [(.blockLen, 1#32), (.stageEn, 0x680#32), (.mode, 2#32)]) 1
    s.csr.configOk Params.default = true ∧ s.csr.blockLength ≤ s.ports.iqIn.length ∧ s.csr.stageOn .deemph = true ∧
      s.csr.stageOn .alpf = true ∧ s.csr.stageOn .chlpf = true ∧ s.csr.stageOn .resamp = true ∧
      s.csr.stageOn .hb = true ∧ s.csr.cqpsk = false ∧ s.key.ch = none ∧
      q.csr.configOk Params.default = true ∧ q.csr.blockLength ≤ q.ports.iqIn.length ∧ q.csr.stageOn .befll = true ∧
      q.csr.stageOn .ted = true ∧ q.csr.stageOn .eq = true ∧ q.csr.cqpsk = true := by decide +kernel
theorem witness_ProcDesignsEnabledSets_kept :
    nextIs (exec .proc (withSamples (withCsrs [(.blockLen, 1#32), (.stageEn, 0x200#32)]) 2))
      (fun t => t.key.ted == some [5#32] && t.csr.stageOn .ted && (t.csr.blockLength ≤ t.ports.iqIn.length)) = true := by
  decide +kernel
theorem witness_WstartResult : -- every result code, at the length the history just holds
    2048 < 2049 ∧
      nextIs (exec (.wstart 2) (withHistory 0#32 [3, -1])) (fun t => t.lastWs == 1#3) = true ∧
      nextIs (exec (.wstart 3) (withHistory 0x140000#32 [3, -1])) (fun t => t.lastWs == 2#3) = true ∧
      nextIs (exec (.wstart 0) (withHistory 0x140000#32 [3, -1])) (fun t => t.lastWs == 2#3) = true ∧
      nextIs (exec (.wstart 2) (withHistory 0x140000#32 [3, 3])) (fun t => t.lastWs == 3#3) = true ∧
      nextIs (exec (.wstart 2) (withHistory 0x140000#32 [3, -1]))
        (fun t => t.lastWs == 0#3 && t.sl.maxbuf.getD 14 F32.zero == F32.ofInt 3
          && t.sl.maxbuf.getD 15 F32.zero == F32.zero) = true := by decide +kernel
theorem witness_WstartCqChangesCenterOnly :
    nextIs (exec (.wstartCq 2) (withHistory 0x140000#32 [3, -1])) (fun t => t.lastWs == 0#3) = true ∧
      nextIs (exec (.wstartCq 2) (withHistory 0x140000#32 [3, 3])) (fun t => t.lastWs == 3#3) = true ∧
      nextIs (exec (.wstartCq 2) (withHistory 0#32 [3, 3])) (fun t => t.lastWs == 1#3) = true := by decide +kernel
theorem witness_DmrRosCommand : -- 23 and 24 symbols; 90, at which a rewrite of 66 places is whole
    (withHistory 0x140000#32 (bsVoiceLevels.drop 1)).sh.n < 24 ∧ 24 ≤ (withHistory 0x140000#32 bsVoiceLevels).sh.n ∧
      nextIs (exec .dmrRos (withHistory 0x140000#32 (List.replicate 66 1 ++ bsVoiceLevels)))
        (fun t => t.dmr.best == 1 && t.sh.d.getD 0 0#2 == 0#2 && t.sh.d.getD 65 0#2 == 0#2
          && t.sh.r.getD 0 0#8 == 119#8 && t.sh.r.getD 66 0#8 == 0#8) = true := by decide +kernel
theorem witness_DmrRosCommand_scores :
    (Params.default.dmrPatterns.map (dmrScore .binary32 (syncSymbols .binary32 (withHistory 0x140000#32 bsVoiceLevels).sh))).any F32.isNan
      = false := by
  decide +kernel
theorem witness_DmrEqualizerClamped : -- the first update, and a later one
    nextIs (exec .dmrRos (withHistory 0x140000#32 bsVoiceLevels)) (fun t => 24 ≤ t.sh.n && t.dmr.init) = true ∧
      24 ≤ (withHistory 0x140000#32 bsVoiceLevels).sh.n := by decide +kernel
theorem witness_RetuneResetRequest :
    (onCmd [0x20000000#32]).ports.cmd = 0x20000000#32 :: [] ∧ (0x20000000#32).extractLsb' 24 8 = 0x20#8 ∧
      (onCmd [0x20800000#32]).ports.cmd = 0x20800000#32 :: [] ∧ (0x20800000#32).extractLsb' 24 8 = 0x20#8 := by decide
theorem witness_ClassifyPredicates :
    (onCmd [0x4000FFFF#32]).ports.cmd = 0x4000FFFF#32 :: [] ∧ (0x4000FFFF#32).extractLsb' 24 8 = 0x40#8 ∧
      (onCmd [0x40010000#32]).ports.cmd = 0x40010000#32 :: [] ∧ (0x40010000#32).extractLsb' 24 8 = 0x40#8 ∧
      (41 : Int) ∉ syncTypeIds ∧ (40 : Int) ∈ [-1, 39, 40] := by decide
theorem witness_DisabledStagesAreIdentity :
    let s := withCsrs [(.stageEn, 0#32)]
    let q := withCsrs [(.stageEn, 0x7FFFFE#32), (.mode, 2#32)]
    let f := withCsrs [(.stageEn, 0x7FFFFE#32)]
    s.on .fs4 = false ∧ s.on .hb = false ∧ s.on .dcb = false ∧ s.on .iqb = false ∧ s.on .chlpf = false ∧
      s.on .slice = false ∧ s.on .scan = false ∧ s.on .ws = false ∧ s.on .dmrRos = false ∧ q.cfg.cqpsk = true ∧
      q.on .costas = true ∧ f.cfg.cqpsk = false ∧ f.cfg.ratio.1 = f.cfg.ratio.2 ∧ s.on .ted = false ∧
      s.on .perm = false := by decide +kernel
theorem witness_StagesIgnoreBlockBoundaries : -- two symbols, the first of which completes a P25P1 sync
    Instr.stageSlice ∈ [Instr.stageFs4, .stageSlice] ∧
      nextIs (exec .stageSlice { onStream 1#32 0xC0000#32 [re (-5), re 1] with
          sync := { State.reset.sync with sr := p25p1Pattern.reverse.drop 1 ++ List.replicate 41 0#2, srn := 23 }
          sl := { Slicer.reset .binary32 with umid := F32.ofInt 2, lmid := F32.ofInt (-2) } })
        (fun t => t.sync.type == 0 && t.sync.srn == 1 && t.symcount == 2#32) = true := by decide +kernel
theorem witness_Fs4ShiftRotates : (onStream 1#32 0x2#32 [re 1]).on .fs4 = true ∧ (onStream 1#32 0x2#32 [re 1]).fs4n < 4 ∧
    (onStream 1#32 0x2#32 [re 1]).work.xs[0]? = some (re 1) := by decide +kernel
theorem witness_HalfBandSample : -- no stage, one, and the greatest number of stages
    let s := { onStream 1#32 0x4#32 [re 1] with cfg := (onStream 1#32 0x4#32 []).cfg.set .hbStages 1#32 }
    let hb := HbStage.reset Params.default
    let u := { onStream 1#32 0x4#32 [re 1] with cfg := (onStream 1#32 0x4#32 []).cfg.set .hbStages 4#32 }
    ((onStream 1#32 0x4#32 []).cfg.get .hbStages).toNat % 8 = 0 ∧ s.on .hb = true ∧ (s.cfg.get .hbStages).toNat % 8 = 1 ∧
      s.hb = hb :: List.replicate 3 hb ∧ s.work.xs = [re 1] ∧ u.on .hb = true ∧
      (u.cfg.get .hbStages).toNat % 8 = 3 + 1 ∧ u.hb = hb :: List.replicate 3 hb := by decide +kernel
theorem witness_front_end_samples : -- DcBlockSample, AgcSample, LimiterSamples, IqBalanceSample
    let s := onStream 1#32 0x78#32 [re 1]
    s.on .dcb = true ∧ s.on .agc = true ∧ s.on .lim = true ∧ s.on .iqb = true ∧ s.cfg.cqpsk = false ∧
      s.work.xs = [re 1] ∧ s.work.xs[0]? = some (re 1) := by decide +kernel
theorem witness_BandEdgeSample : let s := onStream 2#32 0x80#32 [re 1]
    s.on .befll = true ∧ s.cfg.cqpsk = true ∧ s.work.xs = [re 1] := by decide +kernel
theorem witness_TedSample : -- no strobe, and a strobe
    let s := onStream 2#32 0x200#32 [re 1]
    let u := { s with ted := { s.ted with t := F32.one } }
    s.on .ted = true ∧ (s.cfg.cqpsk = false ∨ s.on .costas = false) ∧ s.work.xs = [re 1] ∧ u.on .ted = true ∧
      F32.le (F32.sub s.ted.t F32.one) F32.zero = false ∧ F32.le (F32.sub u.ted.t F32.one) F32.zero = true := by
  decide +kernel
theorem witness_CostasSample : -- no symbol, and a symbol
    let s := onStream 2#32 0x100#32 [j]
    let u := { s with ted := { s.ted with t := F32.one } }
    s.on .costas = true ∧ s.cfg.cqpsk = true ∧ s.work.xs = [j] ∧
      nextIs (exec .stageTed { s with cfg := s.cfg.set .stageEn 0x200#32 }) (fun t => t.work.xs == []) = true ∧
      nextIs (exec .stageTed { u with cfg := u.cfg.set .stageEn 0x200#32 }) (fun t => t.work.xs == [j]) = true := by
  decide +kernel
theorem witness_PhaseStepSamples :
    let s := onStream 2#32 0x20000#32 [j]
    let f := onStream 1#32 0x1000#32 [j]
    s.work.xs = [j] ∧ s.on .diff = true ∧ s.cfg.cqpsk = true ∧ f.work.xs = [j] ∧ f.on .disc = true ∧
      f.cfg.cqpsk = false := by decide +kernel
theorem witness_EqualizerWithoutLmsKeepsTaps : let s := onStream 2#32 0x400#32 [j]
    s.on .eq = true ∧ s.cfg.cqpsk = true ∧ s.cfg.lmsEn = false := by decide +kernel
theorem witness_EqualizerOneTapLms :
    oneTap.on .eq = true ∧ oneTap.cfg.cqpsk = true ∧ oneTap.cfg.lmsEn = true ∧ oneTap.cfg.wlEn = false ∧
      oneTap.cfg.ffeLen = 1 ∧ oneTap.cfg.dfeLen = 0 ∧ oneTap.eq.lmsPrev = true ∧ oneTap.eq.cma = 0 ∧
      oneTap.eq.w = re 1 :: List.replicate 30 C32.zero ∧ oneTap.eq.v = C32.zero :: List.replicate 30 C32.zero ∧
      oneTap.eq.x.length = 31 ∧ oneTap.work.xs = [re 2] ∧
      (oneTap.cfg.get .eqStride).toNat % 65536 ≤ oneTap.eq.stride + 1 := by decide +kernel
theorem witness_EqualizerOneTapLms_general : -- FFE_LEN 3, DFE_LEN 1, WL and LMS on; a rising edge of LMS_EN
    let s := onStream 2#32 0x400#32 [j]
    let u := { s with cfg := s.cfg.set .eqCfg 0x00083103#32 }
    u.on .eq = true ∧ u.cfg.cqpsk = true ∧ u.work.xs = [j] ∧ u.eq.lmsPrev = false ∧ u.cfg.lmsEn = true := by
  decide +kernel
theorem witness_LegacyFllClamped : let s := onStream 1#32 0x800#32 [j]
    s.on .lfll = true ∧ s.cfg.cqpsk = false ∧ s.work.xs ≠ [] := by decide +kernel
theorem witness_Atan2Q14Odd :
    F32.one.isNan = false ∧ F32.one.isZero = false ∧ (F32.neg F32.zero).isZero = true ∧ F32.zero.isNan = false ∧
      F32.lt F32.zero F32.one = true ∧ F32.eqv F32.one F32.one = true ∧
      F32.eqv F32.one (F32.neg (F32.ofInt (-1))) = true := by decide +kernel
theorem witness_OnePoleSamples : -- a coefficient other than 1, and 1
    let s := onStream 1#32 0xA000#32 [j]
    s.work.xs = [j] ∧ s.cfg.cqpsk = false ∧ s.on .deemph = true ∧ s.on .alpf = true ∧ F32.eqv s.de.a F32.one = false ∧
      F32.eqv (deCoeff .binary32 s.cfg) F32.one = true := by decide +kernel
theorem witness_ChannelLpfSample : let s := onStream 1#32 0x4000#32 [j]
    s.on .chlpf = true ∧ s.work.xs = [j] := by decide +kernel
theorem witness_ResamplerSample :
    let s := { onStream 1#32 0x10000#32 [j] with cfg := (onStream 1#32 0x10000#32 []).cfg.set .rsM 2#32 }
    s.on .resamp = true ∧ s.cfg.ratio.1 ≠ s.cfg.ratio.2 ∧ 0 < s.cfg.ratio.2 ∧ s.work.xs = [j] := by decide +kernel
theorem witness_SliceSymbolFm : -- the window after the symbol holds it alone; a spacing above 0, and one not
    let s := onStream 1#32 0x40000#32 [j]
    let sl : Slicer F32 := { Slicer.reset .binary32 with umid := F32.ofInt 2, lmid := F32.ofInt (-2) }
    s.on .slice = true ∧ s.cfg.cqpsk = false ∧ s.on .scan = false ∧ s.work.xs = [j] ∧
      1 ≤ (s.cfg.get .slSsize).toNat % 4096 ∧ 1 ≤ (s.cfg.get .slMsize).toNat % 2048 ∧
      (s.cfg.get .slMsize).toNat % 2048 ≤ 1024 ∧ s.sl.maxbuf.length = 1024 ∧ s.sl.minbuf.length = 1024 ∧
      nextIs (exec .stageSlice s) (fun t => t.sh.n == 1 && t.sh.v.getD 0 F32.nan == F32.zero) = true ∧
      F32.le (F32.sub (Slicer.reset .binary32).umid (Slicer.reset .binary32).center) F32.zero = true ∧
      F32.lt F32.zero (F32.sub sl.umid sl.center) = true ∧ relFm Params.default sl F32.one = 127#8 ∧
      relFm Params.default sl (F32.ofInt 4) = 255#8 := by decide +kernel
theorem witness_SliceSymbolCqpsk :
    let s := onStream 2#32 0x40000#32 [j]
    s.on .slice = true ∧ s.cfg.cqpsk = true ∧ s.on .scan = false ∧ s.work.xs = [j] ∧
      F32.abs (F32.sub (F32.ofInt 1) (Slicer.reset .binary32).center) = F32.one ∧
      relCq Params.default (Slicer.reset .binary32) F32.one = 127#8 := by
  decide +kernel
theorem witness_SliceSymbol_scanner_on : -- both paths
    let s := onStream 1#32 0xC0000#32 [j]
    let q := onStream 2#32 0xC0000#32 [j]
    s.on .slice = true ∧ s.on .scan = true ∧ s.cfg.cqpsk = false ∧ s.work.xs = [j] ∧
      q.on .slice = true ∧ q.on .scan = true ∧ q.cfg.cqpsk = true ∧ q.work.xs = [j] := by decide +kernel
theorem witness_ScannerStep : -- a register one dibit short of the P25P1 pattern, which the dibit 3 completes and 1 does not
    let s := { withCsrs [(.stageEn, 0x80000#32)] with
      sync := { State.reset.sync with sr := p25p1Pattern.reverse.drop 1 ++ List.replicate 41 0#2, srn := 23 }
      work := { (Work.idle : Work F32) with d := 3#2 } }
    let u := { s with work := { (Work.idle : Work F32) with d := 1#2 } }
    s.on .scan = true ∧ s.sync.sr.length = 64 ∧
      Params.default.syncTable
        = [] ++ Params.default.syncTable.headD ⟨0, 0, none, none, none⟩ :: Params.default.syncTable.drop 1 ∧
      nextIs (exec .stageScan s) (fun t => t.sync.type == 0 && t.sync.srn == 0 && t.ports.syncOut.length == 1) = true ∧
      u.on .scan = true ∧ u.sync.sr.length = 64 ∧
      nextIs (exec .stageScan u) (fun t => t.sync.type == -1 && t.sync.srn == 24 && t.ports.syncOut == []) = true := by
  decide +kernel
theorem witness_DetectionStages : -- NO_HISTORY, OK and DEGENERATE of the warm-start; 23 and 24 symbols
    let s := withHistory 0x300000#32 (bsVoiceLevels.drop 1)
    let u := withHistory 0x300000#32 bsVoiceLevels
    let w := fun (l : List Int) => { withHistory 0x100000#32 l with work := { (Work.idle : Work F32) with syncLen := 2 } }
    s.on .ws = true ∧ s.work.syncLen = 0 ∧ s.on .dmrRos = true ∧ s.sh.n < 24 ∧ u.on .dmrRos = true ∧ 24 ≤ u.sh.n ∧
      (∀ p ∈ Params.default.dmrPatterns, (dmrScore .binary32 (syncSymbols .binary32 u.sh) p).isNan = false) ∧
      nextIs (exec .stageWs s) (fun t => t.lastWs == 2#3) = true ∧
      nextIs (exec .stageWs (w [3, -3])) (fun t => t.lastWs == 0#3 && t.sl.max == F32.ofInt 3) = true ∧
      nextIs (exec .stageWs (w [3, 3])) (fun t => t.lastWs == 3#3) = true := by decide +kernel
theorem witness_PermutationSearchStep : -- 23 dibits; a first candidate that fits, one after it, none; a locked window that holds
    let s := searching p25p1Pattern
    let u := searching (p25p1Pattern.map (Perm.apply ⟨2#2, 0#2, 3#2, 1#2⟩))
    let z := searching (List.replicate 24 0#2)
    let l := { u with perm := ⟨1#2, 3#2, 0#2, 2#2⟩, permLock := true }
    let few := { s with sync := { s.sync with srn := 23 } }
    s.cfg.cqpsk = true ∧ s.on .perm = true ∧ s.sync.sr.length = 64 ∧ few.sync.srn < 24 ∧ 24 ≤ s.sync.srn ∧
      s.permLock = false ∧ hamming s Perm.identity = 0 ∧ hamming s ⟨0#2, 3#2, 2#2, 1#2⟩ = 24 ∧
      4 < hamming u Perm.identity ∧ hamming u ⟨1#2, 3#2, 0#2, 2#2⟩ = 0 ∧
      l.permLock = true ∧ hamming l l.perm ≤ (l.cfg.get .permThr).toNat % 256 ∧
      nextIs (exec .stagePerm l) (fun t => t == l) = true ∧
      permCandidates.all (fun q => (z.cfg.get .permThr).toNat % 256 < hamming z q) = true := by decide +kernel
theorem witness_StepKeepsInvariant :
    (onCmd [0x20000000#32]).inv = true ∧ step (onCmd [0x20000000#32]) = exec .retuneReset (onCmd [0x20000000#32]) := by
  exact ⟨by decide +kernel, rfl⟩
theorem witness_StepKeepsInvariant_designed : -- a resampler designed from L/M = 4/6 and K = 3
    nextIs (exec .proc (withSamples (withCsrs [(.blockLen, 4#32), (.stageEn, 0x10000#32), (.rsL, 4#32), (.rsM, 6#32),
        (.rsK, 3#32)]) 4))
      (fun t => State.inv t && t.rs.acc == 1 && t.rs.taps.length == 6 && t.rs.h.length == 3) = true := by decide +kernel
theorem witness_SynctypeStable : -- a RESET after a detection, and a PROC that detects
    nextIs (step (withSync (onCmd [0x21000000#32]) 12)) (fun t => t.sync.type != 12) = true := by decide +kernel
theorem witness_SynctypeStable_proc :
    nextIs (exec .proc { withSamples (withCsrs [(.stageEn, 0xC0000#32), (.blockLen, 1#32)]) 0 with
        sync := { State.reset.sync with sr := p25p1Pattern.reverse.drop 1 ++ List.replicate 41 0#2, srn := 23 }
        ports := { Ports.empty with iqIn := [⟨0xA000#16, 0#16⟩] } })
      (fun t => t.sync.type == 0 && t.ports.syncOut.length == 1) = true := by decide +kernel
theorem witness_FlagsClearedOnlyAsStated_retune :
    nextIs (exec .proc { withSamples (withCsrs [(.blockLen, 1#32)]) 1 with
        permLock := true, rr := true, cos := { State.reset.cos with init := true } })
      (fun t => !t.permLock && !t.cos.init && !t.rr) = true := by decide +kernel
theorem witness_FlagsClearedOnlyAsStated :
    nextIs (step { onCmd [0x01001000#32, 1#32] with err := true }) (fun t => !t.err) = true ∧
      nextIs (step { onCmd [0x21000000#32] with
          permLock := true, dmr := { State.reset.dmr with init := true }, cos := { State.reset.cos with init := true } })
        (fun t => !t.permLock && !t.dmr.init && !t.cos.init) = true := by decide +kernel
theorem witness_OneResponsePerCommandInOrder :
    (onCmd [0x02000000#32]).ports.wf = true ∧
      nextIs (step (onCmd [0x02000000#32])) (fun t => t.ports.resp.length == 2) = true := by decide +kernel
theorem witness_AdditionRoundsToNearest : -- 1 + 2^-24 lies midway between 1 and 1 + 2^-23
    let x := F32.one
    let y := F32.ofRat 1 (2 ^ 24)
    let z := F32.ofRat (2 ^ 23 + 1) (2 ^ 23)
    x.isFinite = true ∧ y.isFinite = true ∧ z.isFinite = true ∧ (F32.add x y).isFinite = true ∧ F32.add x y = x ∧
      z.units ≠ x.units ∧ (x.units - (x.units + y.units)).natAbs = (z.units - (x.units + y.units)).natAbs ∧
      y.units ≠ 0 ∧ (F32.sub x y).isFinite = true ∧ (F32.mul x y).isFinite = true ∧ (F32.div x y).isFinite = true ∧
      0 ≤ x.units := by decide +kernel

end Sys2Proof.Tests
end

section
/-! PROOF. The step of a command word, for the control commands NOP, RETUNE_RESET and CLASSIFY (R180 to R186, R190,
R552): what the decoder answers for a word of a row of R184, and what ending or refusing the command leaves. -/

namespace Sys2Proof.Proofs.Commands
open Sys2Proof Sys2Proof.Machine

/-! ## Fetch -/

/-- Both must-be-zero fields of a bare command are 0 exactly where its bits 23:0 are (R181, R183). -/
theorem bare_fields_zero_iff (w : Word) : (subField w = 0#8 ∧ immField w = 0#16) ↔ w.extractLsb' 0 24 = 0#24 := by
  simp only [subField, immField, BitVec.toNat_eq, BitVec.extractLsb'_toNat, Nat.shiftRight_eq_div_pow, BitVec.toNat_ofNat]
  omega

/-- The step of a word that the decoder reads as a bare command: the command, or BAD_FORMAT (R185, R186 b). -/
theorem step_of_decodeBare {s : State} {w : Word} {rest : List Word} {i : Instr} (hcmd : s.ports.cmd = w :: rest)
    (hdec : decode (w :: rest) = decodeBare w i) :
    step s = if w.extractLsb' 0 24 = 0#24 then exec i s else .next (s.raise 1 .badFormat) := by
  rw [step, hcmd, hdec, decodeBare]
  simp only [bare_fields_zero_iff]
  split <;> rfl

/-- The step of a word that the decoder reads as a command with an immediate: the command, or BAD_FORMAT (R185). -/
theorem step_of_decodeImm {s : State} {w : Word} {rest : List Word} {i : Instr} (hcmd : s.ports.cmd = w :: rest)
    (hdec : decode (w :: rest) = decodeImm w i) :
    step s = if w.extractLsb' 16 8 = 0#8 then exec i s else .next (s.raise 1 .badFormat) := by
  rw [step, hcmd, hdec, decodeImm, subField]
  split <;> rfl

theorem decode_nop {w : Word} (h : w.extractLsb' 24 8 = 0x00#8) (rest : List Word) :
    decode (w :: rest) = decodeBare w .nop := by
  have hop : Op.ofCode (opField w) = some .nop := by rw [opField, h]; rfl
  simp only [decode, hop]

theorem decode_retuneReset {w : Word} (h : w.extractLsb' 24 8 = 0x20#8) (rest : List Word) :
    decode (w :: rest) = decodeBare w .retuneReset := by
  have hop : Op.ofCode (opField w) = some .retuneReset := by rw [opField, h]; rfl
  simp only [decode, hop]

theorem decode_classify {w : Word} (h : w.extractLsb' 24 8 = 0x40#8) (rest : List Word) :
    decode (w :: rest) = decodeImm w (.classify (immField w).toInt) := by
  have hop : Op.ofCode (opField w) = some .classify := by rw [opField, h]; rfl
  simp only [decode, hop]

/-! ## The end of a command -/

/-- A one-word command that ends takes its word off `CMD` and appends its answer to `RESP` (R190). -/
theorem ended_one {s : State} {w : Word} {rest : List Word} (hcmd : s.ports.cmd = w :: rest) (answer : List Word) :
    s.ended 1 answer = { s with ports := { s.ports with cmd := rest, resp := s.ports.resp ++ answer } } := by
  rw [State.ended, hcmd]; rfl

/-- A malformed one-word command records BAD_FORMAT, answers it and loses its word (R186 b, R552). -/
theorem raise_badFormat {s : State} {w : Word} {rest : List Word} (hcmd : s.ports.cmd = w :: rest) :
    s.raise 1 .badFormat =
      { s with err := true, lastErr := 0x02#8
               ports := { s.ports with cmd := rest, resp := s.ports.resp ++ [0x02000000#32] } } := by
  rw [State.Of.raise, State.Of.respond, hcmd]; rfl

theorem exec_nop (s : State) : exec .nop s = .next (s.ended 1 [0x00000000#32]) := rfl

theorem exec_retuneReset (s : State) :
    exec .retuneReset s = .next (State.ended { s with rr := true } 1 [0x00000000#32]) := rfl

/-- The OK status over the widened predicates is the predicates over zeros (R190, R230). -/
theorem ok_append_setWidth (v : BitVec 11) : Status.ok.code ++ v.setWidth 24 = 0#21 ++ v := by
  have hv := v.isLt
  apply BitVec.eq_of_toNat_eq
  simp only [Status.code, BitVec.toNat_append, BitVec.toNat_setWidth, BitVec.toNat_ofNat, Nat.zero_mod, Nat.zero_shiftLeft,
    Nat.zero_or]
  omega

theorem exec_classify (id : Int) (s : State) :
    exec (.classify id) s = .next (s.ended 1 [0#21 ++ predicates id]) := by
  rw [← ok_append_setWidth]; rfl

/-! ## The statements of NOP and RETUNE_RESET -/

/-- Settles O9: the decoder reads the word as a bare command, and ending `NOP` touches only `CMD` and `RESP`. -/
theorem nopStep : Obligations.NopStep := by
  unfold Obligations.NopStep
  refine ⟨exec_nop, fun s w rest hcmd hop => ?_⟩
  rw [step_of_decodeBare hcmd (decode_nop hop rest), exec_nop, ended_one hcmd, raise_badFormat hcmd]

/-- STATUS.RR shows the recorded request (R74). -/
theorem status_getLsbD_one (s : State) : s.status.getLsbD 1 = s.rr := by
  simp only [State.Of.status, BitVec.getLsbD_append]
  simp

/-- Settles O17: the request is one flag, which ending the command and STATUS show; `RESET` restores its power-on value. -/
theorem retuneResetRequest : Obligations.RetuneResetRequest := by
  unfold Obligations.RetuneResetRequest
  refine ⟨fun s => ⟨exec_retuneReset s, status_getLsbD_one _⟩, fun s w rest hcmd hop => ?_, fun s => ⟨_, rfl, rfl⟩⟩
  rw [step_of_decodeBare hcmd (decode_retuneReset hop rest), exec_retuneReset,
    ended_one (s := { s with rr := true }) hcmd, raise_badFormat hcmd]

end Sys2Proof.Proofs.Commands
end

section
/-! PROOF. The classification predicates (R230, R530): the vector of `predicates` bit by bit. -/

namespace Sys2Proof.Proofs.Commands
open Sys2Proof Sys2Proof.Machine

/-- Shifting every index of a bit sum up by one doubles it. -/
theorem bitSum_zipIdx_succ {α : Type} (f : α → Bool) (l : List α) (k : Nat) :
    ((l.zipIdx (k + 1)).map (fun e : α × Nat => if f e.1 then 2 ^ e.2 else 0)).sum =
      2 * ((l.zipIdx k).map (fun e : α × Nat => if f e.1 then 2 ^ e.2 else 0)).sum := by
  induction l generalizing k with
  | nil => rfl
  | cons a l ih =>
    simp only [List.zipIdx_cons, List.map_cons, List.sum_cons, ih (k + 1), Nat.mul_add]
    congr 1
    split
    · rw [Nat.pow_succ']
    · rfl

/-- Bit `i` of the sum of `2^i` over the entries that satisfy `f` says whether entry `i` does. -/
theorem testBit_bitSum {α : Type} (f : α → Bool) (l : List α) (i : Nat) :
    ((l.zipIdx).map (fun e : α × Nat => if f e.1 then 2 ^ e.2 else 0)).sum.testBit i = l[i]?.any f := by
  induction l generalizing i with
  | nil => simp
  | cons a l ih =>
    have hbit : (((a :: l).zipIdx).map (fun e : α × Nat => if f e.1 then 2 ^ e.2 else 0)).sum =
        Nat.bit (f a) ((l.zipIdx).map (fun e : α × Nat => if f e.1 then 2 ^ e.2 else 0)).sum := by
      rw [List.zipIdx_cons, List.map_cons, List.sum_cons, bitSum_zipIdx_succ, Nat.bit_val, Nat.add_comm]
      cases f a <;> rfl
    rw [hbit]
    cases i with
    | zero => simp
    | succ i => simp [Nat.testBit_bit_succ, ih]

/-- A predicate bit is true for exactly the IDs of its row of the table of R530. -/
theorem predicates_getLsbD (id : Int) (i : Nat) :
    (predicates id).getLsbD i = predicateTable[i]?.any (fun l => l.contains id) := by
  rw [predicates, BitVec.getLsbD_ofNat, testBit_bitSum (fun l : List Int => l.contains id)]
  by_cases hi : i < 11
  · simp [hi]
  · have hnone : predicateTable[i]? = none := List.getElem?_eq_none (Nat.le_of_not_lt hi)
    simp [hnone]

theorem predicates_getLsbD_iff (id : Int) {i : Nat} {l : List Int} (h : predicateTable[i]? = some l) :
    (predicates id).getLsbD i = true ↔ id ∈ l := by
  simp [predicates_getLsbD, h]

/-- Every ID of a predicate belongs to the closed set of R503, and is none of −1, 39 and 40. -/
theorem predicateTable_ids : ∀ l ∈ predicateTable, ∀ id ∈ l, id ∈ syncTypeIds ∧ id ∉ ([-1, 39, 40] : List Int) := by
  decide

/-- An ID that no row of the table holds gives no predicate. -/
theorem predicates_eq_zero {id : Int} (h : ∀ l ∈ predicateTable, id ∉ l) : predicates id = 0#11 := by
  apply BitVec.eq_of_getLsbD_eq
  intro i hi
  rw [predicates_getLsbD, BitVec.getLsbD_zero, List.getElem?_eq_getElem (show i < predicateTable.length from hi)]
  simpa using h _ (List.getElem_mem _)

/-- Settles O29: the step is that of a command with an immediate; the bits are read off the rows of the table. -/
theorem classifyPredicates : Obligations.ClassifyPredicates := by
  unfold Obligations.ClassifyPredicates
  refine ⟨fun s w rest hcmd hop => ?_, fun s id => ⟨exec_classify id s, ?_⟩⟩
  · rw [step_of_decodeImm hcmd (decode_classify hop rest), exec_classify, ended_one hcmd, raise_badFormat hcmd]
    rfl
  · have bit {i : Nat} {l : List Int} := @predicates_getLsbD_iff id i l
    refine ⟨bit rfl, bit rfl, bit rfl, bit rfl, bit rfl, bit rfl, bit rfl, bit rfl, bit rfl, bit rfl, bit rfl, ?_⟩
    intro hid
    refine predicates_eq_zero fun l hl hmem => ?_
    obtain ⟨hset, hnot⟩ := predicateTable_ids l hl id hmem
    exact hid.elim (fun hout => hout hset) hnot

end Sys2Proof.Proofs.Commands
end

section
/-! PROOF. Exact arithmetic of the default format (R12): `rnd` of a normal value is that value, so the audio scaling gives a
16-bit sample back (R142, R146, R440). -/

namespace Sys2Proof.Proofs.Commands
open Sys2Proof Sys2Proof.Machine

/-! ## The parts of a packed datum -/

/-- The datum of a sign, a biased exponent `e` and a fraction `f`. -/
def packed (neg : Bool) (e f : Nat) : F32 :=
  ⟨BitVec.ofNat 32 (if neg then e <<< 23 + f + 0x80000000 else e <<< 23 + f)⟩

theorem packed_isNeg (neg : Bool) {e f : Nat} (he : e < 256) (hf : f < 2 ^ 23) : (packed neg e f).isNeg = neg := by
  simp only [packed, F32.isNeg, BitVec.getLsbD_ofNat, Nat.testBit_eq_decide_div_mod_eq, Nat.shiftLeft_eq]
  cases neg <;> simp <;> omega

theorem packed_expo (neg : Bool) {e f : Nat} (he : e < 256) (hf : f < 2 ^ 23) : (packed neg e f).expo = e := by
  simp only [packed, F32.expo, BitVec.extractLsb'_toNat, BitVec.toNat_ofNat, Nat.shiftLeft_eq, Nat.shiftRight_eq_div_pow]
  split <;> omega

theorem packed_frac (neg : Bool) {e f : Nat} (hf : f < 2 ^ 23) : (packed neg e f).frac = f := by
  simp only [packed, F32.frac, BitVec.extractLsb'_toNat, BitVec.toNat_ofNat, Nat.shiftLeft_eq, Nat.shiftRight_eq_div_pow]
  split <;> omega

/-! ## Exact rounding -/

/-- Dropping bits that are all 0 rounds nothing. -/
theorem roundShift_mul_two_pow (q r : Nat) : F32.roundShift (q * 2 ^ r) r false = q := by
  have hq : (q * 2 ^ r) >>> r = q := by rw [Nat.shiftRight_eq_div_pow, Nat.mul_div_cancel _ (Nat.two_pow_pos r)]
  have hpos : 0 < 2 ^ r := Nat.two_pow_pos r
  simp [F32.roundShift, hq, Nat.shiftLeft_eq, hpos.ne]

/-- `rnd` of a value with a 24-bit significand `q` and the exponent of a normal datum is the datum of that value. -/
theorem rnd_normal (neg : Bool) {q k e : Nat} (hlo : 2 ^ 23 ≤ q) (hhi : q < 2 ^ 24) (he : e ≤ 253) :
    F32.rnd neg (q * 2 ^ (k + e)) k false = packed neg (e + 1) (q - 2 ^ 23) := by
  have hlog : Nat.log2 (q * 2 ^ (k + e)) = 23 + (k + e) := by
    rw [Nat.log2_eq_iff (by positivity)]
    constructor
    · rw [Nat.pow_add]; exact Nat.mul_le_mul_right _ hlo
    · rw [show 23 + (k + e) + 1 = 24 + (k + e) by omega, Nat.pow_add 2 24]
      exact Nat.mul_lt_mul_of_pos_right hhi (Nat.two_pow_pos _)
  have hdrop : F32.dropBits (q * 2 ^ (k + e)) k = k + e := by rw [F32.dropBits, hlog]; omega
  have hbits : (k + e - k) <<< 23 + q = (e + 1) <<< 23 + (q - 2 ^ 23) := by
    simp only [Nat.shiftLeft_eq]; omega
  have hfin : ¬ 0x7F800000 ≤ (e + 1) <<< 23 + (q - 2 ^ 23) := by simp only [Nat.shiftLeft_eq]; omega
  simp only [F32.rnd, hdrop, roundShift_mul_two_pow, hbits, if_neg hfin, packed]

/-- `x` is the finite datum of sign `neg` and magnitude `m`, in units of 2^-149. -/
structure IsExact (x : F32) (neg : Bool) (m : Nat) : Prop where
  expo_lt : x.expo < 255
  isNeg : x.isNeg = neg
  mag : x.mag = m

theorem IsExact.isNan {x : F32} {neg : Bool} {m : Nat} (h : IsExact x neg m) : x.isNan = false := by
  simp [F32.isNan, h.expo_lt.ne]

theorem IsExact.isInf {x : F32} {neg : Bool} {m : Nat} (h : IsExact x neg m) : x.isInf = false := by
  simp [F32.isInf, h.expo_lt.ne]

theorem isExact_packed (neg : Bool) {q e : Nat} (hlo : 2 ^ 23 ≤ q) (hhi : q < 2 ^ 24) (he : e ≤ 253) :
    IsExact (packed neg (e + 1) (q - 2 ^ 23)) neg (q * 2 ^ e) := by
  have hf : q - 2 ^ 23 < 2 ^ 23 := by omega
  have hexpo := packed_expo neg (e := e + 1) (by omega) hf
  refine ⟨by omega, packed_isNeg neg (by omega) hf, ?_⟩
  rw [F32.mag, hexpo, packed_frac neg hf, if_neg (Nat.succ_ne_zero e), Nat.add_sub_cancel, Nat.shiftLeft_eq,
    show q - 2 ^ 23 + 8388608 = q by omega]

/-- `rnd` of an integer of at most 24 bits times a power of two is exact, away from the ends of the exponent range. -/
theorem isExact_rnd (neg : Bool) {m k e : Nat} (hm : m < 2 ^ 24) (hlo : 23 ≤ e) (hhi : e ≤ 253) (hm0 : 0 < m) :
    IsExact (F32.rnd neg (m * 2 ^ (k + e)) k false) neg (m * 2 ^ e) := by
  obtain ⟨l, hl⟩ : ∃ l, Nat.log2 m = l := ⟨_, rfl⟩
  rw [Nat.log2_eq_iff hm0.ne'] at hl
  have hl23 : l ≤ 23 := by
    by_contra h
    have := Nat.pow_le_pow_right (n := 2) (by omega) (show 24 ≤ l by omega)
    omega
  have hshift (j : Nat) : m * 2 ^ (j + e) = (m * 2 ^ (23 - l)) * 2 ^ (j + (e - (23 - l))) := by
    rw [Nat.mul_assoc, ← Nat.pow_add]; congr 2; omega
  have hqlo : 2 ^ 23 ≤ m * 2 ^ (23 - l) := by
    calc 2 ^ 23 = 2 ^ l * 2 ^ (23 - l) := by rw [← Nat.pow_add]; congr 1; omega
      _ ≤ m * 2 ^ (23 - l) := Nat.mul_le_mul_right _ hl.1
  have hqhi : m * 2 ^ (23 - l) < 2 ^ 24 := by
    calc m * 2 ^ (23 - l) < 2 ^ (l + 1) * 2 ^ (23 - l) := Nat.mul_lt_mul_of_pos_right hl.2 (Nat.two_pow_pos _)
      _ = 2 ^ 24 := by rw [← Nat.pow_add]; congr 1; omega
  have h := isExact_packed neg hqlo hqhi (show e - (23 - l) ≤ 253 by omega)
  rw [hshift k, rnd_normal neg hqlo hqhi (by omega)]
  have hmag : m * 2 ^ e = m * 2 ^ (23 - l) * 2 ^ (e - (23 - l)) := by simpa using hshift 0
  rwa [hmag]

/-! ## A sample through the audio scaling -/

/-- A shift in two parts as products. -/
theorem shiftLeft_add_eq_mul (n a b : Nat) : n <<< (a + b) = n * 2 ^ a * 2 ^ b := by
  rw [Nat.shiftLeft_eq, Nat.pow_add, Nat.mul_assoc]

/-- The I or Q of an entry, other than 0, is exact as a REAL (R142): 1/32768 is 2^134 units. -/
theorem isExact_ofRat {i : Int} (h0 : i ≠ 0) (hi : i.natAbs ≤ 32768) :
    IsExact (F32.ofRat i 32768) (decide (i < 0)) (i.natAbs * 2 ^ 134) := by
  have hm : i.natAbs <<< 349 = i.natAbs * 2 ^ (200 + 134) * 32768 :=
    shiftLeft_add_eq_mul i.natAbs (200 + 134) 15
  have hdiv : i.natAbs <<< 349 / 32768 = i.natAbs * 2 ^ (200 + 134) := by
    rw [hm, Nat.mul_div_cancel _ (by decide)]
  have hmod : i.natAbs <<< 349 % 32768 = 0 := by rw [hm, Nat.mul_mod_left]
  have h := isExact_rnd (decide (i < 0)) (m := i.natAbs) (k := 200) (e := 134) (by omega) (by decide) (by decide) (by omega)
  simpa only [F32.ofRat, hdiv, hmod, bne_self_eq_false] using h

/-- The scale of R146 is exact. -/
theorem isExact_scale : IsExact (F32.ofNat 32768) false (32768 * 2 ^ 149) := ⟨by decide, by decide, by decide⟩

/-- The product of two finite data is `rnd` of the product of their magnitudes (R12). -/
theorem mul_of_isExact {x y : F32} {a b : Bool} {m n : Nat} (hx : IsExact x a m) (hy : IsExact y b n) :
    F32.mul x y = F32.rnd (a != b) (m * n) 149 false := by
  simp [F32.mul, hx.isNan, hy.isNan, hx.isInf, hy.isInf, hx.isNeg, hy.isNeg, hx.mag, hy.mag]

/-- Scaling back by 32768 gives the integer, exactly. -/
theorem isExact_mul_scale {i : Int} (h0 : i ≠ 0) (hi : i.natAbs ≤ 32768) :
    IsExact (F32.mul (F32.ofRat i 32768) (F32.ofNat 32768)) (decide (i < 0)) (i.natAbs * 2 ^ 149) := by
  rw [mul_of_isExact (isExact_ofRat h0 hi) isExact_scale,
    show i.natAbs * 2 ^ 134 * (32768 * 2 ^ 149) = i.natAbs * 2 ^ (149 + 149) by rw [Nat.pow_add]; omega, Bool.bne_false]
  exact isExact_rnd _ (by omega) (by decide) (by decide) (by omega)

/-- `round_half_even` of an integer is that integer. -/
theorem roundHalfEven_of_isExact {x : F32} {i : Int} (h : IsExact x (decide (i < 0)) (i.natAbs * 2 ^ 149)) :
    F32.roundHalfEven x = i := by
  rw [F32.roundHalfEven, h.mag, h.isNeg, roundShift_mul_two_pow]
  by_cases hi : i < 0
  · simp only [hi, decide_true, if_true]; omega
  · simp only [hi, decide_false, Bool.false_eq_true, if_false]; omega

/-- `sat16` of an integer within 16 bits is its pattern (R15). -/
theorem sat16_of_isExact {x : F32} (v : BitVec 16) (h : IsExact x (decide (v.toInt < 0)) (v.toInt.natAbs * 2 ^ 149)) :
    F32.sat16 x = v := by
  have hlo := v.le_toInt
  have hhi := v.toInt_lt
  have hsat : F32.sat16 x =
      BitVec.ofInt 16 (if v.toInt < -32768 then -32768 else if 32767 < v.toInt then 32767 else v.toInt) := by
    simp [F32.sat16, RealFormat.sat16, h.isNan, h.isInf, roundHalfEven_of_isExact h]
  rw [hsat, if_neg (by omega), if_neg (by omega), BitVec.ofInt_toInt]

/-- The audio entry in the default format (R146, R440). -/
theorem audioSample_binary32 (re im : F32) :
    audioSample .binary32 ⟨re, im⟩ = F32.sat16 (F32.mul re (F32.ofNat 32768)) := rfl

/-- A 16-bit sample read from `IQ_IN` and pushed to `AUDIO_OUT` comes out as it went in (R142, R146). -/
theorem audioSample_ofRat (v : BitVec 16) (im : F32) : audioSample .binary32 ⟨F32.ofRat v.toInt 32768, im⟩ = v := by
  rw [audioSample_binary32]
  by_cases h0 : v.toInt = 0
  · have hv : v = 0#16 := BitVec.eq_of_toInt_eq (by simpa using h0)
    simp only [hv]
    decide
  · have hlo := v.le_toInt
    have hhi := v.toInt_lt
    have hexact := isExact_mul_scale (i := v.toInt) h0 (by omega)
    exact sat16_of_isExact v hexact

end Sys2Proof.Proofs.Commands
end

section
/-! PROOF. What `PROC` pushes to `AUDIO_OUT` (R146, R223, R440): the design step, the stages and the slicer keep the latched
configuration and the port, so only `audioOutput` counts; its appends to a full ring keep the newest entries. -/

namespace Sys2Proof.Proofs.Commands
open Sys2Proof Sys2Proof.Machine

variable {R : Type}

/-! ## Stages and design steps keep the latched configuration and the ports -/

@[simp] theorem stageFs4_cfg_ports (F : RealFormat R) (s : State.Of R) :
    (stageFs4 F s).cfg = s.cfg ∧ (stageFs4 F s).ports = s.ports := by rw [stageFs4_frame]; exact ⟨rfl, rfl⟩

@[simp] theorem stageHb_cfg_ports (p : Params R) (s : State.Of R) :
    (stageHb p s).cfg = s.cfg ∧ (stageHb p s).ports = s.ports := by rw [stageHb_frame]; exact ⟨rfl, rfl⟩

@[simp] theorem stageDcb_cfg_ports (F : RealFormat R) (s : State.Of R) :
    (stageDcb F s).cfg = s.cfg ∧ (stageDcb F s).ports = s.ports := by rw [stageDcb_frame]; exact ⟨rfl, rfl⟩

@[simp] theorem stageAgc_cfg_ports (F : RealFormat R) (s : State.Of R) :
    (stageAgc F s).cfg = s.cfg ∧ (stageAgc F s).ports = s.ports := by rw [stageAgc_frame]; exact ⟨rfl, rfl⟩

@[simp] theorem stageLim_cfg_ports (F : RealFormat R) (s : State.Of R) :
    (stageLim F s).cfg = s.cfg ∧ (stageLim F s).ports = s.ports := by rw [stageLim_frame]; exact ⟨rfl, rfl⟩

@[simp] theorem stageIqb_cfg_ports (F : RealFormat R) (s : State.Of R) :
    (stageIqb F s).cfg = s.cfg ∧ (stageIqb F s).ports = s.ports := by rw [stageIqb_frame]; exact ⟨rfl, rfl⟩

@[simp] theorem stageBefll_cfg_ports (F : RealFormat R) (s : State.Of R) :
    (stageBefll F s).cfg = s.cfg ∧ (stageBefll F s).ports = s.ports := by rw [stageBefll_frame]; exact ⟨rfl, rfl⟩

@[simp] theorem stageCostas_cfg_ports (F : RealFormat R) (s : State.Of R) :
    (stageCostas F s).cfg = s.cfg ∧ (stageCostas F s).ports = s.ports := by rw [stageCostas_frame]; exact ⟨rfl, rfl⟩

@[simp] theorem stageTed_cfg_ports (F : RealFormat R) (s : State.Of R) :
    (stageTed F s).cfg = s.cfg ∧ (stageTed F s).ports = s.ports := by rw [stageTed_frame]; exact ⟨rfl, rfl⟩

@[simp] theorem stageEq_cfg_ports (F : RealFormat R) (s : State.Of R) :
    (stageEq F s).cfg = s.cfg ∧ (stageEq F s).ports = s.ports := by rw [stageEq_frame]; exact ⟨rfl, rfl⟩

@[simp] theorem stageLfll_cfg_ports (F : RealFormat R) (s : State.Of R) :
    (stageLfll F s).cfg = s.cfg ∧ (stageLfll F s).ports = s.ports := by rw [stageLfll_frame]; exact ⟨rfl, rfl⟩

@[simp] theorem stageDisc_cfg_ports (p : Params R) (s : State.Of R) :
    (stageDisc p s).cfg = s.cfg ∧ (stageDisc p s).ports = s.ports := by rw [stageDisc_frame]; exact ⟨rfl, rfl⟩

@[simp] theorem realStream_cfg_ports (F : RealFormat R) (s : State.Of R) :
    (realStream F s).cfg = s.cfg ∧ (realStream F s).ports = s.ports := ⟨rfl, rfl⟩

@[simp] theorem stageDeemph_cfg_ports (F : RealFormat R) (s : State.Of R) :
    (stageDeemph F s).cfg = s.cfg ∧ (stageDeemph F s).ports = s.ports := by rw [stageDeemph_frame]; exact ⟨rfl, rfl⟩

@[simp] theorem stageChlpf_cfg_ports (F : RealFormat R) (s : State.Of R) :
    (stageChlpf F s).cfg = s.cfg ∧ (stageChlpf F s).ports = s.ports := by rw [stageChlpf_frame]; exact ⟨rfl, rfl⟩

@[simp] theorem stageAlpf_cfg_ports (F : RealFormat R) (s : State.Of R) :
    (stageAlpf F s).cfg = s.cfg ∧ (stageAlpf F s).ports = s.ports := by rw [stageAlpf_frame]; exact ⟨rfl, rfl⟩

@[simp] theorem stageResamp_cfg_ports (F : RealFormat R) (s : State.Of R) :
    (stageResamp F s).cfg = s.cfg ∧ (stageResamp F s).ports = s.ports := by rw [stageResamp_frame]; exact ⟨rfl, rfl⟩

@[simp] theorem stageDiff_cfg_ports (F : RealFormat R) (s : State.Of R) :
    (stageDiff F s).cfg = s.cfg ∧ (stageDiff F s).ports = s.ports := by rw [stageDiff_frame]; exact ⟨rfl, rfl⟩

@[simp] theorem designHb_cfg_ports (p : Params R) (s : State.Of R) :
    (designHb p s).cfg = s.cfg ∧ (designHb p s).ports = s.ports := by rw [designHb_frame]; exact ⟨rfl, rfl⟩

@[simp] theorem designBe_cfg_ports (F : RealFormat R) (s : State.Of R) :
    (designBe F s).cfg = s.cfg ∧ (designBe F s).ports = s.ports := by rw [designBe_frame]; exact ⟨rfl, rfl⟩

@[simp] theorem designTed_cfg_ports (F : RealFormat R) (s : State.Of R) :
    (designTed F s).cfg = s.cfg ∧ (designTed F s).ports = s.ports := by rw [designTed_frame]; exact ⟨rfl, rfl⟩

@[simp] theorem designEq_cfg_ports (F : RealFormat R) (s : State.Of R) :
    (designEq F s).cfg = s.cfg ∧ (designEq F s).ports = s.ports := by rw [designEq_frame]; exact ⟨rfl, rfl⟩

@[simp] theorem designDe_cfg_ports (F : RealFormat R) (s : State.Of R) :
    (designDe F s).cfg = s.cfg ∧ (designDe F s).ports = s.ports := by rw [designDe_frame]; exact ⟨rfl, rfl⟩

@[simp] theorem designCh_cfg_ports (p : Params R) (s : State.Of R) :
    (designCh p s).cfg = s.cfg ∧ (designCh p s).ports = s.ports := by rw [designCh_frame]; exact ⟨rfl, rfl⟩

@[simp] theorem designAl_cfg_ports (F : RealFormat R) (s : State.Of R) :
    (designAl F s).cfg = s.cfg ∧ (designAl F s).ports = s.ports := by rw [designAl_frame]; exact ⟨rfl, rfl⟩

@[simp] theorem designRs_cfg_ports (F : RealFormat R) (s : State.Of R) :
    (designRs F s).cfg = s.cfg ∧ (designRs F s).ports = s.ports := by rw [designRs_frame]; exact ⟨rfl, rfl⟩

@[simp] theorem design_cfg_ports (p : Params R) (s : State.Of R) :
    (design p s).cfg = s.cfg ∧ (design p s).ports = s.ports := by simp [design]

/-- A retune reset touches neither the control registers nor the ports (R592). -/
theorem applyRetune_csr_ports (p : Params R) (s : State.Of R) :
    (applyRetune p s).csr = s.csr ∧ (applyRetune p s).ports = s.ports := by
  unfold applyRetune
  split <;> exact ⟨rfl, rfl⟩

/-- Before the stages run, every CSR is latched and the ports are as the command found them (R67, R262). -/
theorem prepare_cfg_ports (p : Params R) (s : State.Of R) :
    (prepare p s).cfg = s.csr ∧ (prepare p s).ports = s.ports := by
  obtain ⟨hcsr, hports⟩ := applyRetune_csr_ports p s
  obtain ⟨hcfg, hports'⟩ := design_cfg_ports p (applyRetune p s).latch
  exact ⟨hcfg.trans hcsr, hports'.trans hports⟩

/-! ## The symbol chain keeps the latched configuration and `AUDIO_OUT` -/

theorem stageWs_audioOut (F : RealFormat R) (s : State.Of R) :
    (stageWs F s).cfg = s.cfg ∧ (stageWs F s).ports.audioOut = s.ports.audioOut := by
  obtain ⟨_, _, _, h⟩ := stageWs_frame F s
  rw [h]
  exact ⟨rfl, rfl⟩

theorem stageDmrRos_audioOut (p : Params R) (s : State.Of R) :
    (stageDmrRos p s).cfg = s.cfg ∧ (stageDmrRos p s).ports.audioOut = s.ports.audioOut := by
  obtain ⟨_, _, _, _, _, _, _, h⟩ := stageDmrRos_frame p s
  rw [h]
  exact ⟨rfl, rfl⟩

theorem stagePerm_audioOut (p : Params R) (s : State.Of R) :
    (stagePerm p s).cfg = s.cfg ∧ (stagePerm p s).ports.audioOut = s.ports.audioOut := by
  rw [stagePerm_frame]
  exact ⟨rfl, rfl⟩

theorem detect_audioOut (p : Params R) (s : State.Of R) (e : SyncEntry) :
    (detect p s e).cfg = s.cfg ∧ (detect p s e).ports.audioOut = s.ports.audioOut := by
  unfold detect
  dsimp only
  split
  · exact stageDmrRos_audioOut p (detectStart s e)
  · exact stageWs_audioOut p.real (detectStart s e)

theorem stageScan_audioOut (p : Params R) (s : State.Of R) :
    (stageScan p s).cfg = s.cfg ∧ (stageScan p s).ports.audioOut = s.ports.audioOut := by
  obtain ⟨hcfg, haudio⟩ := stagePerm_audioOut p (srPush s s.work.d)
  unfold stageScan
  split
  · unfold scan
    dsimp only
    split
    · next e _ =>
      obtain ⟨hcfg', haudio'⟩ := detect_audioOut p (stagePerm p (srPush s s.work.d)) e
      exact ⟨hcfg'.trans hcfg, haudio'.trans haudio⟩
    · exact ⟨hcfg, haudio⟩
  · exact ⟨rfl, rfl⟩

theorem sliceSymbol_audioOut (p : Params R) (s : State.Of R) (x : R) :
    (sliceSymbol p s x).cfg = s.cfg ∧ (sliceSymbol p s x).ports.audioOut = s.ports.audioOut := by
  unfold sliceSymbol
  dsimp only
  split
  · exact ⟨rfl, rfl⟩
  · rw [rolling_frame]
    exact ⟨rfl, rfl⟩

theorem symbolStep_audioOut (p : Params R) (s : State.Of R) (x : R) :
    (symbolStep p s x).cfg = s.cfg ∧ (symbolStep p s x).ports.audioOut = s.ports.audioOut := by
  obtain ⟨hcfg, haudio⟩ := sliceSymbol_audioOut p s x
  obtain ⟨hcfg', haudio'⟩ := stageScan_audioOut p (sliceSymbol p s x)
  exact ⟨hcfg'.trans hcfg, haudio'.trans haudio⟩

/-- The slicer chain pushes no audio, whatever symbols run through it. -/
@[simp] theorem stageSlice_audioOut (p : Params R) (s : State.Of R) :
    (stageSlice p s).ports.audioOut = s.ports.audioOut := by
  have hfold (zs : List (Cplx R)) (t : State.Of R) :
      (zs.foldl (fun t z => symbolStep p t (slicerInput p t.cfg z)) t).ports.audioOut = t.ports.audioOut := by
    induction zs generalizing t with
    | nil => rfl
    | cons z zs ih => exact (ih _).trans (symbolStep_audioOut p t _).2
  unfold stageSlice
  dsimp only
  split
  · exact hfold s.work.xs s
  · rfl

/-! ## The audio output -/

/-- Keeping the newest entries before an append changes nothing of what is kept after it. -/
theorem rtake_rtake_append {α : Type} (k : Nat) (q r : List α) : (q.rtake k ++ r).rtake k = (q ++ r).rtake k := by
  simp [List.rtake_eq_reverse_take_reverse, List.take_append, List.take_take]

/-- The block's append to a ring within its bound keeps the newest entries that the ring has room for (R146). -/
theorem appendDropOld_eq_rtake {α : Type} {cap : Nat} {q : List α} (hcap : 2 ≤ cap) (hq : q.length ≤ cap - 1) (e : α) :
    appendDropOld cap q e = (q ++ [e]).rtake (cap - 1) := by
  unfold appendDropOld List.rtake
  split
  · next h => rw [List.length_append, List.length_singleton, Nat.sub_eq_zero_of_le h, List.drop_zero]
  · next h =>
    have hlen : q.length = cap - 1 := by omega
    rw [List.length_append, List.length_singleton, hlen, Nat.add_sub_cancel_left, List.drop_append_of_le_length (by omega)]

/-- Appending one entry after another keeps the newest of all (R146). -/
theorem foldl_appendDropOld {α β : Type} {cap : Nat} (hcap : 2 ≤ cap) (f : β → α) (zs : List β) (q : List α)
    (hq : q.length ≤ cap - 1) :
    zs.foldl (fun q z => appendDropOld cap q (f z)) q = (q ++ zs.map f).rtake (cap - 1) := by
  induction zs generalizing q with
  | nil => simp [List.rtake, Nat.sub_eq_zero_of_le hq]
  | cons z zs ih =>
    rw [List.foldl_cons, ih _ (appendDropOld_length_le cap q (f z) hcap hq), appendDropOld_eq_rtake hcap hq,
      rtake_rtake_append, List.append_assoc, List.map_cons, List.singleton_append]

/-- Pushing samples one after another changes `AUDIO_OUT` alone of the ports. -/
theorem foldl_audioPush_audioOut (p : Params R) (f : Cplx R → BitVec 16) (zs : List (Cplx R)) (s : State.Of R) :
    (zs.foldl (fun t z => t.audioPush p (f z)) s).ports.audioOut =
      zs.foldl (fun q z => appendDropOld p.audioCap q (f z)) s.ports.audioOut := by
  induction zs generalizing s with
  | nil => rfl
  | cons z zs ih => exact ih _

/-- In MODE 0 with some stage on, the audio output pushes every sample of the stream, and the port keeps the newest
(R146, R440). -/
theorem audioOutput_audioOut {p : Params R} {s : State.Of R} (hmode : s.cfg.field .mode 0 3 = 0)
    (hany : s.cfg.anyStage = true) (hcap : 2 ≤ p.audioCap) (hlen : s.ports.audioOut.length ≤ p.audioCap - 1) :
    (audioOutput p s).ports.audioOut =
      (s.ports.audioOut ++ s.work.xs.map (audioSample p.real)).rtake (p.audioCap - 1) := by
  rw [audioOutput, if_pos ⟨hmode, hany⟩, foldl_audioPush_audioOut, foldl_appendDropOld hcap _ _ _ hlen]

/-- In the other modes, or with every stage off, the audio output does nothing (R223, R440). -/
theorem audioOutput_eq_self {p : Params R} {s : State.Of R}
    (h : s.cfg.field .mode 0 3 ≠ 0 ∨ s.cfg.anyStage = false) : audioOutput p s = s := by
  rw [audioOutput, if_neg]
  rintro ⟨hmode, hany⟩
  exact h.elim (fun h => h hmode) (fun h => by simp [h] at hany)

/-! ## The FM-family path up to the audio output -/

/-- The stages of the FM family on the complex stream, those of `fmComplexOrder`. -/
def fmComplexStages (p : Params R) (s : State.Of R) : State.Of R :=
  stageDisc p (stageLfll p.real (stageIqb p.real (stageLim p.real (stageAgc p.real (stageDcb p.real
    (stageHb p (stageFs4 p.real s)))))))

/-- The stages of the FM family on the real stream up to the audio output, those of `fmRealOrder`. -/
def fmRealStages (F : RealFormat R) (s : State.Of R) : State.Of R :=
  stageResamp F (stageAlpf F (stageChlpf F (stageDeemph F s)))

/-- The state that the audio output of the FM family finds (R440). -/
def beforeAudio (p : Params R) (s : State.Of R) : State.Of R :=
  fmRealStages p.real (realStream p.real (fmComplexStages p s))

theorem runInstrs_fmComplexOrder (s : State) :
    runInstrs fmComplexOrder s = .next (fmComplexStages Params.default s) := rfl

theorem runInstrs_fmRealOrder (s : State) : runInstrs fmRealOrder s = .next (fmRealStages .binary32 s) := rfl

theorem fmPath_eq (p : Params R) (s : State.Of R) :
    fmPath p s = stageSlice p (stageTed p.real (audioOutput p (beforeAudio p s))) := rfl

theorem beforeAudio_cfg_ports (p : Params R) (s : State.Of R) :
    (beforeAudio p s).cfg = s.cfg ∧ (beforeAudio p s).ports = s.ports := by
  simp [beforeAudio, fmRealStages, fmComplexStages]

theorem cqpskPath_audioOut (p : Params R) (s : State.Of R) :
    (cqpskPath p s).ports.audioOut = s.ports.audioOut := by
  simp [cqpskPath]

/-- In MODE 0 the stages push what leaves the stages up to 16 (R440). -/
theorem runPath_audioOut {p : Params R} {s : State.Of R} (hmode : s.cfg.field .mode 0 3 = 0)
    (hany : s.cfg.anyStage = true) (hcap : 2 ≤ p.audioCap) (hlen : s.ports.audioOut.length ≤ p.audioCap - 1) :
    (runPath p s).ports.audioOut =
      (s.ports.audioOut ++ (beforeAudio p s).work.xs.map (audioSample p.real)).rtake (p.audioCap - 1) := by
  obtain ⟨hcfg, hports⟩ := beforeAudio_cfg_ports p s
  have hcq : s.cq = false := by simp [State.Of.cq, CsrFile.cqpsk, hmode]
  rw [runPath, hcq, if_neg Bool.false_ne_true, fmPath_eq, stageSlice_audioOut, (stageTed_cfg_ports _ _).2,
    audioOutput_audioOut (hcfg ▸ hmode) (hcfg ▸ hany) hcap (hports ▸ hlen), hports]

/-- In MODES 1 to 3, or with every stage off, the stages push no audio (R223, R440). -/
theorem runPath_audioOut_eq_self {p : Params R} {s : State.Of R}
    (h : s.cfg.field .mode 0 3 ≠ 0 ∨ s.cfg.anyStage = false) : (runPath p s).ports.audioOut = s.ports.audioOut := by
  obtain ⟨hcfg, hports⟩ := beforeAudio_cfg_ports p s
  unfold runPath
  split
  · exact cqpskPath_audioOut p s
  · rw [fmPath_eq, stageSlice_audioOut, (stageTed_cfg_ports _ _).2, audioOutput_eq_self (hcfg ▸ h), hports]

/-! ## Disabled stages -/

theorem stageFs4_off (F : RealFormat R) {s : State.Of R} (h : s.on .fs4 = false) : stageFs4 F s = s := by simp [stageFs4, h]
theorem stageHb_off (p : Params R) {s : State.Of R} (h : s.on .hb = false) : stageHb p s = s := by simp [stageHb, h]
theorem stageDcb_off (F : RealFormat R) {s : State.Of R} (h : s.on .dcb = false) : stageDcb F s = s := by simp [stageDcb, h]
theorem stageAgc_off (F : RealFormat R) {s : State.Of R} (h : s.on .agc = false) : stageAgc F s = s := by simp [stageAgc, h]
theorem stageLim_off (F : RealFormat R) {s : State.Of R} (h : s.on .lim = false) : stageLim F s = s := by simp [stageLim, h]
theorem stageIqb_off (F : RealFormat R) {s : State.Of R} (h : s.on .iqb = false) : stageIqb F s = s := by simp [stageIqb, h]
theorem stageLfll_off (F : RealFormat R) {s : State.Of R} (h : s.on .lfll = false) : stageLfll F s = s := by simp [stageLfll, h]
theorem stageDisc_off (p : Params R) {s : State.Of R} (h : s.on .disc = false) : stageDisc p s = s := by simp [stageDisc, h]
theorem stageDeemph_off (F : RealFormat R) {s : State.Of R} (h : s.on .deemph = false) : stageDeemph F s = s := by
  simp [stageDeemph, h]
theorem stageChlpf_off (F : RealFormat R) {s : State.Of R} (h : s.on .chlpf = false) : stageChlpf F s = s := by
  simp [stageChlpf, h]
theorem stageAlpf_off (F : RealFormat R) {s : State.Of R} (h : s.on .alpf = false) : stageAlpf F s = s := by simp [stageAlpf, h]
theorem stageResamp_off (F : RealFormat R) {s : State.Of R} (h : s.on .resamp = false) : stageResamp F s = s := by
  simp [stageResamp, h]

/-- None of the stages 1 to 6 and 11 to 16 is on (R76). -/
def SampleStagesOff (f : CsrFile) : Prop := f.get .stageEn &&& 0x0001F87E#32 = 0#32

theorem SampleStagesOff.stageOn {f : CsrFile} (h : SampleStagesOff f) {k : Stage}
    (hk : (0x0001F87E#32).getLsbD k.bit = true) : f.stageOn k = false := by
  have hbit := congrArg (fun v => v.getLsbD k.bit) h
  simpa only [CsrFile.stageOn, BitVec.getLsbD_and, hk, Bool.and_true, BitVec.getLsbD_zero] using hbit

/-- With those stages off the stream reaches the audio output as its real parts (R260). -/
theorem beforeAudio_of_off (p : Params R) {s : State.Of R} (h : SampleStagesOff s.cfg) :
    beforeAudio p s = realStream p.real s := by
  have hcomplex : fmComplexStages p s = s := by
    rw [fmComplexStages, stageFs4_off _ (h.stageOn rfl), stageHb_off _ (h.stageOn rfl), stageDcb_off _ (h.stageOn rfl),
      stageAgc_off _ (h.stageOn rfl), stageLim_off _ (h.stageOn rfl), stageIqb_off _ (h.stageOn rfl),
      stageLfll_off _ (h.stageOn rfl), stageDisc_off _ (h.stageOn rfl)]
  have h' : SampleStagesOff (realStream p.real s).cfg := h
  rw [beforeAudio, hcomplex, fmRealStages, stageDeemph_off _ (h'.stageOn rfl), stageChlpf_off _ (h'.stageOn rfl),
    stageAlpf_off _ (h'.stageOn rfl), stageResamp_off _ (h'.stageOn rfl)]

/-- The samples of `IQ_IN`, taken as a stream of which only the real parts go on, give their I as audio (R142, R440). -/
theorem audioSample_realStream (s : State) (n : Nat) :
    (realStream .binary32 (popSamples .binary32 s n)).work.xs.map (audioSample .binary32) =
      (s.ports.iqIn.take n).map (fun x => x.i) := by
  simp only [realStream, popSamples, List.map_map, Function.comp_def, IqSample.toCplx, RealFormat.ofReal, audioSample_ofRat]

/-! ## PROC -/

/-- A CSR field from bit 0 up is the register modulo a power of two. -/
theorem field_zero (f : CsrFile) (r : Rw) (len : Nat) : f.field r 0 len = (f.get r).toNat % 2 ^ len := by
  rw [CsrFile.field, Nat.pow_zero, Nat.div_one]

theorem anyStage_iff (f : CsrFile) : f.anyStage = true ↔ f.get .stageEn &&& 0x007FFFFE#32 ≠ 0#32 := bne_iff_ne

/-- The state in which the stages of a `PROC` start: prepared, with the block's samples as the stream (R261). -/
def blockStart (s : State) : State :=
  popSamples .binary32 (prepare Params.default s) ((s.csr.get .blockLen).toNat % 2 ^ 19)

theorem blockStart_cfg (s : State) : (blockStart s).cfg = s.csr := (prepare_cfg_ports Params.default s).1

theorem blockStart_audioOut (s : State) : (blockStart s).ports.audioOut = s.ports.audioOut := by
  rw [blockStart, popSamples_audioOut, (prepare_cfg_ports Params.default s).2]

/-- A `PROC` that completes leaves in `AUDIO_OUT` what its stages leave there (R223, R261). -/
theorem exec_proc_audioOut {s : State} (hok : s.csr.configOk Params.default = true)
    (hlen : (s.csr.get .blockLen).toNat % 2 ^ 19 ≤ s.ports.iqIn.length) :
    ∃ t, exec .proc s = .next t ∧
      t.ports.audioOut = (runPath Params.default (blockStart s)).ports.audioOut := by
  have hn : s.csr.blockLength = (s.csr.get .blockLen).toNat % 2 ^ 19 := field_zero s.csr .blockLen 19
  refine ⟨(block Params.default s s.csr.blockLength).1.done 1
    (BitVec.ofNat 24 (block Params.default s s.csr.blockLength).2), ?_, ?_⟩
  · show execProcWith Params.default s = _
    rw [execProcWith, if_pos hok, if_pos (hn ▸ hlen)]
  · rw [hn]; rfl

/-- Settles O23: `PROC` pushes what `runPath` pushes, by the cases of MODE and STAGE_EN; with the sample stages off the
audio scaling undoes the scaling of `IQ_IN` exactly. -/
theorem fmAudioPassesSample : Obligations.FmAudioPassesSample := by
  unfold Obligations.FmAudioPassesSample
  intro s hok hlen hcap n newest
  obtain ⟨t, hexec, haudio⟩ := exec_proc_audioOut hok hlen
  have hmode : (blockStart s).cfg.field .mode 0 3 = (s.csr.get .mode).toNat % 8 := by
    rw [blockStart_cfg]
    exact field_zero s.csr .mode 3
  have hany : (blockStart s).cfg.anyStage = true ↔ s.csr.get .stageEn &&& 0x007FFFFE#32 ≠ 0#32 := by
    rw [blockStart_cfg, anyStage_iff]
  have hpush (h0 : (s.csr.get .mode).toNat % 8 = 0) (hen : s.csr.get .stageEn &&& 0x007FFFFE#32 ≠ 0#32) :
      t.ports.audioOut = newest (s.ports.audioOut ++
        (beforeAudio Params.default (blockStart s)).work.xs.map (audioSample .binary32)) := by
    rw [haudio, runPath_audioOut (hmode.trans h0) (hany.mpr hen) (by decide) (by rw [blockStart_audioOut]; exact hcap),
      blockStart_audioOut]
    rfl
  refine ⟨t, hexec, fun hsilent => ?_, fun h0 hen hoff => ?_, fun h0 hen => ?_⟩
  · rw [haudio, runPath_audioOut_eq_self, blockStart_audioOut]
    exact hsilent.imp (fun h => hmode ▸ h) (fun h => Bool.eq_false_iff.mpr fun hon => hany.mp hon h)
  · have hstart : SampleStagesOff (blockStart s).cfg := by rw [blockStart_cfg]; exact hoff
    rw [hpush h0 hen, beforeAudio_of_off _ hstart, blockStart, audioSample_realStream,
      (prepare_cfg_ports Params.default s).2]
  · exact ⟨_, _, runInstrs_fmComplexOrder _, runInstrs_fmRealOrder _, hpush h0 hen⟩

end Sys2Proof.Proofs.Commands
end

section
/-! PROOF. The command words both ways (R180 to R186): what the decoder answers for a word of each row of R184, and what the
step of a word that is no well-formed command leaves. -/

namespace Sys2Proof.Proofs.Codec
open Sys2Proof Sys2Proof.Machine Sys2Proof.Laws

/-! ## Encode, then decode -/

/-- Every well-formed command is read back (R180 to R185). -/
theorem decode_encode {i : Instr} (hwf : i.wellFormed = true) (hstage : i.stage = none) (rest : List Word) :
    decode (encode i ++ rest) = .instr i := by
  have use (h : RoundTrip.Statement i) : decode (encode i ++ rest) = .instr i := by
    have h := h hwf
    rw [hstage] at h
    exact h rest
  cases i with
  | nop => exact use RoundTrip.nop
  | csrw a d => exact use (RoundTrip.csrw a d)
  | csrr a => exact use (RoundTrip.csrr a)
  | proc => exact use RoundTrip.proc
  | retuneReset => exact use RoundTrip.retuneReset
  | reset => exact use RoundTrip.reset
  | wstart n => exact use (RoundTrip.wstart n)
  | wstartCq n => exact use (RoundTrip.wstartCq n)
  | dmrRos => exact use RoundTrip.dmrRos
  | classify id => exact use (RoundTrip.classify id)
  | _ => cases hstage

/-- Settles O1, by the round trip of each command. -/
theorem decodeEncodeCommands : Obligations.DecodeEncodeCommands := by
  unfold Obligations.DecodeEncodeCommands
  intro i hwf hstage
  exact ⟨decode_encode hwf hstage, by cases i <;> rfl⟩

/-! ## Decode, then encode -/

/-- A command word is its three fields of format C (R181). -/
theorem word_eq_formatC (w : Word) : opField w ++ subField w ++ immField w = w := by
  ext i hi
  simp only [opField, subField, immField, BitVec.getElem_append, BitVec.getElem_extractLsb']
  split <;> [skip; split] <;> (rw [BitVec.getLsbD_eq_getElem (by omega)]; congr 1; omega)

/-- A command word is its three fields of format R (R182). -/
theorem word_eq_formatR (w : Word) : opField w ++ csrField w ++ zField w = w := by
  ext i hi
  simp only [opField, csrField, zField, BitVec.getElem_append, BitVec.getElem_extractLsb']
  split <;> [skip; split] <;> (rw [BitVec.getLsbD_eq_getElem (by omega)]; congr 1; omega)

/-- A word of an opcode with SUB = 0 is what the encoder writes for its immediate (R181). -/
theorem wordC_of_fields {w : Word} {o : Op} (hop : o.code = opField w) (hsub : subField w = 0#8) :
    wordC o (immField w) = w := by
  rw [wordC, hop, ← hsub, word_eq_formatC]

/-- A word of an opcode with Z = 0 is what the encoder writes for its CSR number (R182). -/
theorem wordR_of_fields {w : Word} {o : Op} (hop : o.code = opField w) (hz : zField w = 0#12) :
    wordR o (csrField w) = w := by
  rw [wordR, hop, ← hz, word_eq_formatR]

theorem decodeBare_eq_instr_iff {w : Word} {i j : Instr} :
    decodeBare w i = .instr j ↔ (subField w = 0#8 ∧ immField w = 0#16) ∧ i = j := by
  unfold decodeBare; split <;> simp_all

theorem decodeImm_eq_instr_iff {w : Word} {i j : Instr} : decodeImm w i = .instr j ↔ subField w = 0#8 ∧ i = j := by
  unfold decodeImm; split <;> simp_all

theorem decodeReg_eq_instr_iff {w : Word} {n : Nat} {i j : Instr} :
    decodeReg w n i = .instr j ↔ zField w = 0#12 ∧ i = j := by
  unfold decodeReg; split <;> simp_all

/-- What an instruction that was read from some words is (R180 to R185). -/
def ReadFrom (ws : List Word) (i : Instr) : Prop := i.wellFormed = true ∧ i.stage = none ∧ encode i <+: ws

/-- A bare command comes from its own word (R181, R183). -/
theorem readFrom_bare {w : Word} {rest : List Word} {o : Op} {i j : Instr} (hop : o.code = opField w)
    (henc : encode i = [wordC o 0#16]) (hi : i.wellFormed = true ∧ i.stage = none) (h : decodeBare w i = .instr j) :
    ReadFrom (w :: rest) j := by
  obtain ⟨⟨hsub, himm⟩, rfl⟩ := decodeBare_eq_instr_iff.mp h
  refine ⟨hi.1, hi.2, ?_⟩
  rw [henc, ← himm, wordC_of_fields hop hsub]
  exact List.prefix_append [w] rest

/-- A command with an immediate comes from its own word, the operand being the IMM field (R181, R183). -/
theorem readFrom_imm {w : Word} {rest : List Word} {o : Op} {i j : Instr} (h : decodeImm w i = .instr j)
    (hop : o.code = opField w) (henc : encode i = [wordC o (immField w)])
    (hi : i.wellFormed = true ∧ i.stage = none) : ReadFrom (w :: rest) j := by
  obtain ⟨hsub, rfl⟩ := decodeImm_eq_instr_iff.mp h
  refine ⟨hi.1, hi.2, ?_⟩
  rw [henc, wordC_of_fields hop hsub]
  exact List.prefix_append [w] rest

theorem syncLenFits_immField (w : Word) : syncLenFits (immField w).toNat = true := by
  simpa [syncLenFits] using (immField w).isLt

theorem idFits_immField (w : Word) : idFits (immField w).toInt = true := by
  have hlo := (immField w).le_toInt
  have hhi := (immField w).toInt_lt
  simp only [idFits, Bool.and_eq_true, decide_eq_true_eq]
  omega

/-- Whatever decodes to an instruction begins with its encoding (R180 to R185). -/
theorem readFrom_of_decode {ws : List Word} {i : Instr} (h : decode ws = .instr i) : ReadFrom ws i := by
  cases ws with
  | nil => cases h
  | cons w rest =>
    unfold decode at h
    cases ho : Op.ofCode (opField w) with
    | none => simp only [ho] at h; cases h
    | some o =>
      have hop := Op.code_of_ofCode ho
      simp only [ho] at h
      cases o with
      | nop => exact readFrom_bare hop rfl ⟨rfl, rfl⟩ h
      | proc => exact readFrom_bare hop rfl ⟨rfl, rfl⟩ h
      | retuneReset => exact readFrom_bare hop rfl ⟨rfl, rfl⟩ h
      | reset => exact readFrom_bare hop rfl ⟨rfl, rfl⟩ h
      | dmrRos => exact readFrom_bare hop rfl ⟨rfl, rfl⟩ h
      | wstart => exact readFrom_imm h hop (by simp [encode]) ⟨syncLenFits_immField w, rfl⟩
      | wstartCq => exact readFrom_imm h hop (by simp [encode]) ⟨syncLenFits_immField w, rfl⟩
      | classify => exact readFrom_imm h hop (by simp [encode]) ⟨idFits_immField w, rfl⟩
      | csrr =>
        obtain ⟨hz, rfl⟩ := decodeReg_eq_instr_iff.mp h
        refine ⟨rfl, rfl, ?_⟩
        rw [encode, wordR_of_fields hop hz]
        exact List.prefix_append [w] rest
      | csrw =>
        cases rest with
        | nil => cases h
        | cons d rest =>
          obtain ⟨hz, rfl⟩ := decodeReg_eq_instr_iff.mp h
          refine ⟨rfl, rfl, ?_⟩
          rw [encode, wordR_of_fields hop hz]
          exact List.prefix_append [w, d] rest

/-- Settles O2: the fields that the decoder checks and reads make up the word. -/
theorem encodeDecodeCommands : Obligations.EncodeDecodeCommands := by
  unfold Obligations.EncodeDecodeCommands
  exact fun ws i h => readFrom_of_decode h

/-! ## Stage operations and written-out words -/

/-- A STAGE_EN value selects stage operations alone (R194). -/
theorem mem_stageInstrs_of_stage {i : Instr} {k : Stage} (h : i.stage = some k) : i ∈ stageInstrs := by
  cases i
  case nop | csrw | csrr | proc | retuneReset | reset | wstart | wstartCq | dmrRos | classify => cases h
  all_goals decide

theorem mem_stageInstrs_of_selected {v : Word} {i : Instr} (h : stageSelected v i = true) : i ∈ stageInstrs := by
  cases hi : i.stage with
  | none => simp [stageSelected, hi] at h
  | some k => exact mem_stageInstrs_of_stage hi

/-- Settles O3: each row is a closed fact, and a value selects no instruction that is not a stage operation. -/
theorem stageWordsNameStages : Obligations.StageWordsNameStages := by
  unfold Obligations.StageWordsNameStages
  intro table
  have hrow : ∀ e ∈ table, e.1 = e.2.2.bit ∧ e.2.1.stage = some e.2.2 ∧ encode e.2.1 = [BitVec.ofNat 32 (2 ^ e.1)] ∧
      decodeTableWord 32 (2 ^ e.1) = some e.2.1 ∧
      ∀ j ∈ stageInstrs, stageSelected (BitVec.ofNat 32 (2 ^ e.1)) j = true → j = e.2.1 := by decide
  refine ⟨fun e he => ?_, fun i k h => ?_⟩
  · obtain ⟨hbit, hstage, henc, hdec, hsel⟩ := hrow e he
    exact ⟨hstage, henc, hdec, fun j hj => hsel j (mem_stageInstrs_of_selected hj) hj, fun f => by rw [hbit]; rfl⟩
  · have hall : ∀ i ∈ stageInstrs, ∃ e ∈ table, e.2.1 = i := by decide
    obtain ⟨e, he, rfl⟩ := hall i (mem_stageInstrs_of_stage h)
    obtain ⟨-, hstage, -⟩ := hrow e he
    obtain rfl : e.2.2 = k := Option.some.inj (hstage.symm.trans h)
    exact ⟨e.1, he⟩

/-- Settles O4: closed evaluations of the decoder. -/
theorem specWordsDecode : Obligations.SpecWordsDecode := by
  unfold Obligations.SpecWordsDecode
  decide

/-! ## The step -/

/-- `exec` is the block with the default parameters (R8). -/
theorem execWith_default (i : Instr) (s : State) : execWith Params.default i s = exec i s := by
  cases i <;> rfl

/-- Settles O5: the two dispatchers arm by arm. -/
theorem stepRunsDecodedInstruction : Obligations.StepRunsDecodedInstruction := by
  unfold Obligations.StepRunsDecodedInstruction
  refine ⟨fun s i h => by rw [step, h]; rfl, fun R p s i h => by rw [stepWith, h]; rfl, execWith_default, ?_, ?_⟩
  · intro p i s hp hi
    cases i
    case proc | reset | dmrRos | stageHb | stageDisc | stageSlice | stageScan | stageDmrRos | stagePerm =>
      exact absurd (by decide) hi
    all_goals
      simp only [execWith, hp]
      rfl
  · exact fun R p q s => ⟨rfl, rfl, fun _ _ => rfl, fun _ => rfl⟩

/-- Settles O6: no opcode has the word's OP. -/
theorem illegalOpcodeStep : Obligations.IllegalOpcodeStep := by
  unfold Obligations.IllegalOpcodeStep
  intro s w rest hcmd hop
  have hnone : Op.ofCode (opField w) = none := by
    rw [Op.ofCode, List.find?_eq_none]
    intro o _ ho
    refine hop ?_
    rw [show w.extractLsb' 24 8 = o.code from (beq_iff_eq.mp ho).symm]
    cases o <;> decide
  have hdec : decode s.ports.cmd = .illegalOp := by rw [hcmd]; simp only [decode, hnone]
  rw [step, hdec]
  simp only [runFetch, State.Of.raise, State.Of.respond, hcmd]
  rfl

theorem decodeReg_malformed {w : Word} {n : Nat} {i : Instr} (h : w.extractLsb' 0 12 ≠ 0#12) :
    decodeReg w n i = .badFormat n := if_neg h

theorem decodeImm_malformed {w : Word} {i : Instr} (h : w.extractLsb' 16 8 ≠ 0#8) : decodeImm w i = .badFormat 1 := if_neg h

theorem decodeBare_malformed {w : Word} {i : Instr} (h : w.extractLsb' 0 24 ≠ 0#24) : decodeBare w i = .badFormat 1 :=
  if_neg (Commands.bare_fields_zero_iff w |>.not.mpr h)

/-- Settles O7: the decoder answers BAD_FORMAT for each opcode, and the step raises it. -/
theorem malformedCommandStep : Obligations.MalformedCommandStep := by
  unfold Obligations.MalformedCommandStep
  intro s w rest o hcmd hop hrest hbad
  have hrow : Op.ofCode (opField w) = some o := by rw [opField, hop]; exact Op.ofCode_code o
  have hdec : decode s.ports.cmd = .badFormat (if o = .csrw then 2 else 1) := by
    rw [hcmd]
    simp only [decode, hrow]
    cases o with
    | nop => exact decodeBare_malformed hbad
    | proc => exact decodeBare_malformed hbad
    | retuneReset => exact decodeBare_malformed hbad
    | reset => exact decodeBare_malformed hbad
    | dmrRos => exact decodeBare_malformed hbad
    | wstart => exact decodeImm_malformed hbad
    | wstartCq => exact decodeImm_malformed hbad
    | classify => exact decodeImm_malformed hbad
    | csrr => exact decodeReg_malformed hbad
    | csrw =>
      cases rest with
      | nil => exact absurd rfl (hrest rfl)
      | cons d rest => exact decodeReg_malformed hbad
  rw [step, hdec]
  rfl

/-- Settles O8: the decoder answers `wait`, and `PROC` tests the samples after the configuration. -/
theorem waitingChangesNothing : Obligations.WaitingChangesNothing := by
  unfold Obligations.WaitingChangesNothing
  refine ⟨fun s hcmd => ?_, fun s w hcmd hop => ?_, fun s hok hlen => ?_⟩
  · rw [step, hcmd]; rfl
  · have hrow : Op.ofCode (opField w) = some .csrw := by rw [opField, hop]; rfl
    have hdec : decode s.ports.cmd = .wait := by rw [hcmd]; simp only [decode, hrow, decodeCsrw]
    rw [step, hdec]; rfl
  · have hlen' : ¬ s.csr.blockLength ≤ s.ports.iqIn.length := by
      have hn : s.csr.blockLength = (s.csr.get .blockLen).toNat % 2 ^ 19 := Commands.field_zero s.csr .blockLen 19
      omega
    show execProcWith Params.default s = _
    rw [execProcWith, if_pos hok, if_neg hlen']

end Sys2Proof.Proofs.Codec
end

section
/-! PROOF. The control registers (R71 to R125, R221, R222): legal values on bit patterns, what an access of an address
answers, STATUS, the read-only registers and the values after power-on. -/

namespace Sys2Proof.Proofs.Csrs
open Sys2Proof Sys2Proof.Machine

/-! ## The parts of a binary32 pattern as numbers -/

theorem isNeg_iff (d : Word) : (F32.mk d).isNeg = true ↔ 2 ^ 31 ≤ d.toNat := by
  have hd := d.isLt
  simp only [F32.isNeg, ← BitVec.testBit_toNat, Nat.testBit_eq_decide_div_mod_eq, decide_eq_true_eq]
  omega

theorem expo_eq (d : Word) : (F32.mk d).expo = d.toNat / 2 ^ 23 % 2 ^ 8 := by
  simp [F32.expo, BitVec.extractLsb'_toNat, Nat.shiftRight_eq_div_pow]

theorem key_eq (d : Word) :
    (F32.mk d).key = if 2 ^ 31 ≤ d.toNat then -((d.toNat % 2 ^ 31 : Nat) : Int) else ((d.toNat % 2 ^ 31 : Nat) : Int) := by
  simp only [F32.key, isNeg_iff, BitVec.extractLsb'_toNat, Nat.shiftRight_zero]

/-- A pattern is finite where its exponent field is not all ones (R71). -/
theorem realFinite_iff (d : Word) : realFinite d = true ↔ d.extractLsb' 23 8 ≠ 0xFF#8 := by
  simp [realFinite, F32.isFinite, F32.expo, BitVec.toNat_eq]

theorem realFinite_iff_toNat (d : Word) : realFinite d = true ↔ d.toNat / 2 ^ 23 % 2 ^ 8 ≠ 255 := by
  simp only [realFinite, F32.isFinite, expo_eq, bne_iff_ne]

theorem isNan_of_realFinite {d : Word} (h : realFinite d = true) : (F32.mk d).isNan = false := by
  have h' : (F32.mk d).expo ≠ 255 := by simpa [realFinite, F32.isFinite] using h
  simp [F32.isNan, h']

/-- The order of finite patterns is that of their keys. -/
theorem lt_zero_iff {d : Word} (h : realFinite d = true) : F32.lt F32.zero ⟨d⟩ = true ↔ 0 < (F32.mk d).key := by
  simp [F32.lt, isNan_of_realFinite h, show F32.zero.isNan = false from rfl, show F32.zero.key = 0 from rfl]

theorem le_zero_iff {d : Word} (h : realFinite d = true) : F32.le F32.zero ⟨d⟩ = true ↔ 0 ≤ (F32.mk d).key := by
  simp [F32.le, isNan_of_realFinite h, show F32.zero.isNan = false from rfl, show F32.zero.key = 0 from rfl]

theorem le_one_iff {d : Word} (h : realFinite d = true) :
    F32.le ⟨d⟩ F32.one = true ↔ (F32.mk d).key ≤ 0x3F800000 := by
  simp [F32.le, isNan_of_realFinite h, show F32.one.isNan = false from rfl, show F32.one.key = 0x3F800000 from rfl]

/-- Finite and > 0 (R81), on patterns. -/
theorem realPos_iff (d : Word) : realPos d = true ↔ 0 < d.toNat ∧ d.toNat < 0x7F800000 := by
  have hd := d.isLt
  rw [realPos, Bool.and_eq_true]
  constructor
  · rintro ⟨hfin, hlt⟩
    rw [lt_zero_iff hfin, key_eq] at hlt
    rw [realFinite_iff_toNat] at hfin
    split at hlt <;> omega
  · rintro ⟨hlo, hhi⟩
    have hfin : realFinite d = true := by rw [realFinite_iff_toNat]; omega
    refine ⟨hfin, ?_⟩
    rw [lt_zero_iff hfin, key_eq, if_neg (by omega)]
    omega

/-- Finite and ≥ 0 (R82, R87, R92), on patterns: −0 is among them. -/
theorem realNonneg_iff (d : Word) : realNonneg d = true ↔ d.toNat < 0x7F800000 ∨ d = 0x80000000#32 := by
  have hd := d.isLt
  rw [realNonneg, Bool.and_eq_true, BitVec.toNat_eq]
  constructor
  · rintro ⟨hfin, hle⟩
    rw [le_zero_iff hfin, key_eq] at hle
    rw [realFinite_iff_toNat] at hfin
    simp only [BitVec.toNat_ofNat]
    split at hle <;> omega
  · intro h
    simp only [BitVec.toNat_ofNat] at h
    have hfin : realFinite d = true := by rw [realFinite_iff_toNat]; omega
    refine ⟨hfin, ?_⟩
    rw [le_zero_iff hfin, key_eq]
    split <;> omega

/-- Finite and 0 < v ≤ 1 (R83, R84, R86), on patterns. -/
theorem realUnit_iff (d : Word) : realUnit d = true ↔ 0 < d.toNat ∧ d.toNat ≤ 0x3F800000 := by
  have hd := d.isLt
  rw [realUnit, Bool.and_eq_true]
  constructor
  · rintro ⟨hpos, hle⟩
    have hfin : realFinite d = true := by rw [realPos, Bool.and_eq_true] at hpos; exact hpos.1
    rw [realPos_iff] at hpos
    rw [le_one_iff hfin, key_eq, if_neg (by omega)] at hle
    omega
  · rintro ⟨hlo, hhi⟩
    have hfin : realFinite d = true := by rw [realFinite_iff_toNat]; omega
    refine ⟨(realPos_iff d).mpr (by omega), ?_⟩
    rw [le_one_iff hfin, key_eq, if_neg (by omega)]
    omega

/-! ## Accesses by address -/

theorem ofAddr_rw (r : Rw) : Csr.ofAddr r.addr = some (.rw r) := by cases r <;> rfl

theorem ofAddr_ro (r : Ro) : Csr.ofAddr r.addr = some (.ro r) := by cases r <;> rfl

/-- A number that no register has is unmapped (R71, R72). -/
theorem ofAddr_eq_none {a : BitVec 12} (h : ∀ e ∈ csrMap, e.1 ≠ a) : Csr.ofAddr a = none := by
  rw [Csr.ofAddr, Option.map_eq_none_iff, List.find?_eq_none]
  exact fun e he => by simpa using h e he

theorem exec_csrw_unmapped {a : BitVec 12} (h : Csr.ofAddr a = none) (d : Word) (s : State) :
    exec (.csrw a d) s = .next (s.failed 2 0x03#8) := by
  show execCsrw a d s = _
  rw [execCsrw, h]; rfl

theorem exec_csrr_unmapped {a : BitVec 12} (h : Csr.ofAddr a = none) (s : State) :
    exec (.csrr a) s = .next (s.failed 1 0x03#8) := by
  show execCsrrWith .binary32 a s = _
  rw [execCsrrWith, h]; rfl

theorem exec_csrw_readOnly (r : Ro) (d : Word) (s : State) : exec (.csrw r.addr d) s = .next (s.failed 2 0x04#8) := by
  show execCsrw r.addr d s = _
  rw [execCsrw, ofAddr_ro]; rfl

theorem exec_csrw_illegal {r : Rw} {d : Word} (h : r.legal d = false) (s : State) :
    exec (.csrw r.addr d) s = .next (s.failed 2 0x05#8) := by
  show execCsrw r.addr d s = _
  rw [execCsrw, ofAddr_rw]
  simp only [h, Bool.false_eq_true, if_false]
  rfl

theorem exec_csrw_legal {r : Rw} {d : Word} (h : r.legal d = true) (s : State) :
    exec (.csrw r.addr d) s = .next (State.ended { s with csr := s.csr.set r (d &&& r.mask) } 2 [0x00000000#32]) := by
  show execCsrw r.addr d s = _
  rw [execCsrw, ofAddr_rw]
  simp only [h, if_true]
  rfl

/-- A read of a mapped register answers its word and changes nothing else (R152, R222). -/
theorem exec_csrr {a : BitVec 12} {c : Csr} (h : Csr.ofAddr a = some c) (s : State) :
    exec (.csrr a) s = .next (s.ended 1 [0x00000000#32, s.readCsr .binary32 c]) := by
  show execCsrrWith .binary32 a s = _
  rw [execCsrrWith, h]; rfl

/-- A field of a word as the number that R75 to R122 bound. -/
theorem field_toNat (d : Word) (lo len : Nat) : (d.extractLsb' lo len).toNat = d.toNat / 2 ^ lo % 2 ^ len := by
  rw [BitVec.extractLsb'_toNat, Nat.shiftRight_eq_div_pow]

/-- Settles O10: the write, and the columns of the table register by register. -/
theorem csrwStoresLegalValue : Obligations.CsrwStoresLegalValue := by
  unfold Obligations.CsrwStoresLegalValue
  refine ⟨fun s r d h => ⟨exec_csrw_legal h s, CsrFile.get_set _ _ _, fun q hq => CsrFile.get_set_ne _ _ _ _ hq⟩, ?_⟩
  intro r d row
  have hpos := realPos_iff d
  have hnonneg := realNonneg_iff d
  have hunit := realUnit_iff d
  have hfinite := realFinite_iff d
  cases r <;> refine ⟨rfl, rfl, ?_⟩ <;>
    first
    | exact hpos
    | exact hnonneg
    | exact hunit
    | exact hfinite
    | simp only [row, Rw.legal, field_toNat, decide_eq_true_eq, Nat.pow_zero, Nat.div_one, Nat.reducePow]

/-- The addresses that R72 lists. -/
def mappedAddrs : List (BitVec 12) :=
  [0x000#12, 0x001#12, 0x002#12, 0x003#12, 0x004#12, 0x005#12, 0x007#12, 0x008#12, 0x010#12, 0x011#12,
    0x012#12, 0x013#12, 0x014#12, 0x015#12, 0x018#12, 0x019#12, 0x01A#12, 0x01B#12, 0x020#12, 0x021#12,
    0x022#12, 0x023#12, 0x028#12, 0x029#12, 0x02A#12, 0x02B#12, 0x02C#12, 0x02D#12, 0x030#12, 0x031#12] ++
  [0x038#12, 0x039#12, 0x03A#12, 0x03B#12, 0x03C#12, 0x03D#12, 0x03E#12, 0x03F#12, 0x040#12, 0x041#12,
    0x042#12, 0x043#12, 0x044#12, 0x048#12, 0x049#12, 0x050#12, 0x051#12, 0x052#12, 0x053#12, 0x054#12,
    0x055#12, 0x056#12, 0x058#12, 0x059#12, 0x05A#12, 0x05B#12, 0x05C#12, 0x05D#12, 0x060#12, 0x061#12] ++
  [0x062#12, 0x063#12, 0x068#12, 0x070#12, 0x071#12, 0x072#12, 0x073#12, 0x074#12, 0x075#12, 0x076#12,
    0x077#12, 0x078#12, 0x079#12, 0x07A#12, 0x07B#12, 0x080#12, 0x081#12, 0x082#12, 0x083#12, 0x084#12,
    0x085#12, 0x086#12, 0x088#12, 0x089#12, 0x08A#12, 0x0A0#12, 0x0A1#12]

/-- The addresses of the read-only registers (R72). -/
def readOnlyAddrs : List (BitVec 12) :=
  [0x000#12, 0x015#12, 0x01A#12, 0x01B#12, 0x022#12, 0x023#12, 0x02B#12, 0x02C#12, 0x02D#12, 0x030#12, 0x031#12,
    0x03E#12, 0x03F#12, 0x044#12, 0x072#12, 0x073#12, 0x074#12, 0x075#12, 0x076#12, 0x077#12, 0x078#12, 0x079#12,
    0x07B#12, 0x083#12, 0x084#12, 0x086#12, 0x088#12, 0x089#12, 0x08A#12, 0x0A0#12, 0x0A1#12]

theorem csrMap_addrs : ∀ e ∈ csrMap, e.1 ∈ mappedAddrs := by decide +kernel

theorem allRo_addrs : allRo.map Ro.addr = readOnlyAddrs := rfl

/-- Settles O11: the map lists no other address, and the write is judged by the register's access type and its value. -/
theorem csrAccessRefusals : Obligations.CsrAccessRefusals := by
  unfold Obligations.CsrAccessRefusals
  refine ⟨fun s a d h => ?_, fun s a d h => ?_, fun s r d h => exec_csrw_illegal h s⟩
  · have hnone : Csr.ofAddr a = none := ofAddr_eq_none fun e he hea => h (hea ▸ csrMap_addrs e he)
    exact ⟨exec_csrw_unmapped hnone d s, exec_csrr_unmapped hnone s⟩
  · have hro : a ∈ allRo.map Ro.addr := allRo_addrs ▸ h
    obtain ⟨r, -, rfl⟩ := List.mem_map.mp hro
    exact exec_csrw_readOnly r d s

/-- A pattern with the exponent all ones is legal in no REAL register (R71). -/
theorem legal_of_nonFinite {r : Rw} {d : Word}
    (hr : r ∈ [Rw.agcTarget, .agcMin, .agcAttack, .agcRelease, .agcEnv, .iqbMu, .iqbThr, .costasAlpha, .costasBeta,
      .costasMaxf, .lfllKp, .lfllKi, .symScale]) (hd : d.extractLsb' 23 8 = 0xFF#8) : r.legal d = false := by
  have hfin : realFinite d = false := by
    rw [← Bool.not_eq_true, realFinite_iff]
    exact not_not_intro hd
  simp only [List.mem_cons, List.not_mem_nil, or_false] at hr
  rcases hr with rfl | rfl | rfl | rfl | rfl | rfl | rfl | rfl | rfl | rfl | rfl | rfl | rfl <;>
    simp [Rw.legal, realPos, realNonneg, realUnit, hfin]

/-- Settles O14: such a value is illegal. -/
theorem realCsrRefusesNonFinite : Obligations.RealCsrRefusesNonFinite := by
  unfold Obligations.RealCsrRefusesNonFinite
  exact fun s r d hr hd => exec_csrw_illegal (legal_of_nonFinite hr hd) s

/-! ## STATUS -/

/-- A write of STATUS clears ERR where bit 0 is set (R74). -/
theorem exec_csrw_status (d : Word) (s : State) :
    exec (.csrw 0x001#12 d) s =
      .next (State.ended { s with err := if d.getLsbD 0 then false else s.err } 2 [0x00000000#32]) := by
  have herr : (s.err && !d.getLsbD 0) = if d.getLsbD 0 then false else s.err := by cases d.getLsbD 0 <;> simp
  show Host.Outcome.next ((s.writeStatus d).done 2 0#24) = _
  rw [State.Of.writeStatus, herr]
  rfl

/-- Settles O12: STATUS is a concatenation of its fields. -/
theorem statusRegister : Obligations.StatusRegister := by
  unfold Obligations.StatusRegister
  refine ⟨fun s => ?_, fun s d => exec_csrw_status d s⟩
  have hfield {n : Nat} (lo : Nat) (v : BitVec n) (h : ∀ i < n, s.status.getLsbD (lo + i) = v.getLsbD i) :
      s.status.extractLsb' lo n = v := by
    apply BitVec.eq_of_getLsbD_eq
    intro i hi
    rw [BitVec.getLsbD_extractLsb', h i hi, decide_eq_true hi, Bool.true_and]
  refine ⟨?_, ?_, ?_, ?_, ?_, ?_, ?_, ?_, hfield 8 _ fun i hi => ?_, hfield 16 _ fun i hi => ?_, hfield 19 _ fun i hi => ?_⟩
  case refine_9 => simp only [State.Of.status, BitVec.getLsbD_append]; interval_cases i <;> simp
  case refine_10 => simp only [State.Of.status, BitVec.getLsbD_append]; interval_cases i <;> simp
  case refine_11 => simp only [State.Of.status, BitVec.getLsbD_append]; interval_cases i <;> simp
  all_goals simp only [State.Of.status, BitVec.getLsbD_append]; simp

/-! ## Read-only registers -/

/-- A register whose value is a plain word shows it (R222). -/
theorem exec_csrr_word {s : State} {r : Ro} {w : Word} (h : s.roValue .binary32 r = .word w) :
    exec (.csrr r.addr) s = .next (s.ended 1 [0x00000000#32, w]) := by
  rw [exec_csrr (ofAddr_ro r), State.readCsr_ro, State.roWord_word _ _ _ _ h]

/-- What a register shows depends on the ports in nothing. -/
theorem roWord_ended (s : State) (r : Ro) (n : Nat) (answer : List Word) :
    (s.ended n answer).roWord .binary32 r = s.roWord .binary32 r := by
  cases r <;> rfl

/-- The word shown for a REAL: its pattern, for a NaN some NaN pattern (R71). -/
theorem shownWord_spec (x : F32) (w : Word) :
    if x.isNan = true then (F32.mk (shownWord x w)).isNan = true else shownWord x w = x.bits := by
  unfold shownWord
  split
  · exact nanWord_isNan w
  · rfl

/-- A register whose value is a REAL shows a word of it, the same at a second read (R152, R222). -/
theorem exec_csrr_real {s : State} {r : Ro} {x : F32} (h : s.roValue .binary32 r = .real x) :
    ∃ w : Word, (if x.isNan = true then (F32.mk w).isNan = true else w = x.bits) ∧
      exec (.csrr r.addr) s = .next (s.ended 1 [0x00000000#32, w]) ∧
      exec (.csrr r.addr) (s.ended 1 [0x00000000#32, w]) =
        .next ((s.ended 1 [0x00000000#32, w]).ended 1 [0x00000000#32, w]) := by
  refine ⟨s.roWord .binary32 r, ?_, ?_, ?_⟩
  · rw [State.Of.roWord, h]
    exact shownWord_spec x _
  · rw [exec_csrr (ofAddr_ro r), State.readCsr_ro]
  · rw [exec_csrr (ofAddr_ro r), State.readCsr_ro, roWord_ended]

theorem permState_eq (s : State) :
    (BitVec.ofBool s.permLock ++ s.perm.bits).setWidth 32 =
      0#23 ++ BitVec.ofBool s.permLock ++ s.perm.p3 ++ s.perm.p2 ++ s.perm.p1 ++ s.perm.p0 := by
  apply BitVec.eq_of_getLsbD_eq
  intro i hi
  simp only [Perm.bits, BitVec.getLsbD_setWidth, BitVec.getLsbD_append]
  interval_cases i <;> simp

theorem dmrBest_eq (s : State) :
    (BitVec.ofBool s.dmr.bvalid ++ (0#5 ++ BitVec.ofNat 3 s.dmr.best)).setWidth 32 =
      BitVec.ofNat 32 (s.dmr.best % 8 + if s.dmr.bvalid = true then 256 else 0) := by
  rw [show s.dmr.best % 8 = (BitVec.ofNat 3 s.dmr.best).toNat by simp]
  generalize BitVec.ofNat 3 s.dmr.best = best
  generalize s.dmr.bvalid = valid
  revert best valid
  decide

/-- The tap that EQ_TAP_SEL selects (R100, R107). -/
theorem selectedTap_eq (s : State) :
    s.selectedTap .binary32 =
      (let i := (s.csr.get .eqTapSel).toNat % 32
      let bank := (s.csr.get .eqTapSel).toNat / 256 % 4
      if bank = 0 ∧ i ≤ 30 then s.eq.w.getD i C32.zero
      else if bank = 1 ∧ i ≤ 30 then s.eq.v.getD i C32.zero
      else if bank = 2 ∧ 1 ≤ i ∧ i ≤ 4 then s.eq.b.getD (i - 1) C32.zero
      else C32.zero) := by
  have hi : s.csr.field .eqTapSel 0 5 = (s.csr.get .eqTapSel).toNat % 32 := Commands.field_zero _ _ 5
  have hb : s.csr.field .eqTapSel 8 2 = (s.csr.get .eqTapSel).toNat / 256 % 4 := rfl
  have h4 : (s.csr.get .eqTapSel).toNat / 256 % 4 < 4 := Nat.mod_lt _ (by decide)
  simp only [State.Of.selectedTap, hi, hb, RealFormat.binary32_czero]
  generalize (s.csr.get .eqTapSel).toNat / 256 % 4 = bank at h4
  interval_cases bank <;> simp

/-- The buffer entry that SL_BUF_SEL selects (R120). -/
theorem selectedBuf_eq (s : State) :
    s.selectedBuf .binary32 =
      (let j := (s.csr.get .slBufSel).toNat % 1024
      if (s.csr.get .slBufSel).getLsbD 16 = true then s.sl.minbuf.getD j F32.zero else s.sl.maxbuf.getD j F32.zero) := by
  have hj : s.csr.field .slBufSel 0 10 = (s.csr.get .slBufSel).toNat % 1024 := Commands.field_zero _ _ 10
  have hb : s.csr.field .slBufSel 16 1 = 0 ↔ (s.csr.get .slBufSel).getLsbD 16 = false := by
    rw [← BitVec.testBit_toNat, Nat.testBit_eq_decide_div_mod_eq, decide_eq_false_iff_not, CsrFile.field]
    omega
  simp only [State.Of.selectedBuf, hj, hb]
  cases (s.csr.get .slBufSel).getLsbD 16 <;> rfl

/-- Settles O13: each address of the two lists is that of a register, and the register's value is the element beside it. -/
theorem csrrReads : Obligations.CsrrReads := by
  unfold Obligations.CsrrReads
  refine ⟨fun s r => exec_csrr (ofAddr_rw r) s, fun s => exec_csrr (c := .status) rfl s, fun s e he => ?_, ?_⟩
  · have hword (r : Ro) (w : Word) (h : s.roValue .binary32 r = .word w) :
        exec (.csrr r.addr) s = .next (s.ended 1 [0x00000000#32, w]) := exec_csrr_word h
    rw [← permState_eq, ← dmrBest_eq] at he
    simp only [List.mem_cons, List.not_mem_nil, or_false] at he
    rcases he with rfl | rfl | rfl | rfl | rfl | rfl | rfl | rfl
    · exact hword .id _ rfl
    · exact hword .slMidx _ rfl
    · exact hword .synctype _ rfl
    · exact hword .lastsynctype _ rfl
    · exact hword .permState _ rfl
    · exact hword .dmrBest _ rfl
    · exact hword .symcount _ rfl
    · exact hword .syncPos _ rfl
  · intro s i bank tap j buf e he
    have htap : tap = s.selectedTap .binary32 := (selectedTap_eq s).symm
    have hbuf : buf = s.selectedBuf .binary32 := (selectedBuf_eq s).symm
    have hreal (r : Ro) (x : F32) (h : s.roValue .binary32 r = .real x) := exec_csrr_real h
    simp only [List.mem_cons, List.not_mem_nil, or_false] at he
    rcases he with rfl | rfl | rfl | rfl | rfl | rfl | rfl | rfl | rfl | rfl | rfl | rfl | rfl | rfl | rfl | rfl | rfl |
      rfl | rfl | rfl | rfl | rfl | rfl
    · exact hreal .agcGain _ rfl
    · exact hreal .iqbAlphaRe _ rfl
    · exact hreal .iqbAlphaIm _ rfl
    · exact hreal .tedMu _ rfl
    · exact hreal .tedOmega _ rfl
    · exact hreal .costasPhase _ rfl
    · exact hreal .costasFreq _ rfl
    · exact hreal .costasErr _ rfl
    · exact hreal .befllPhase _ rfl
    · exact hreal .befllFreq _ rfl
    · exact hreal .eqTapRe _ (by rw [htap]; rfl)
    · exact hreal .eqTapIm _ (by rw [htap]; rfl)
    · exact hreal .lfllFreq _ rfl
    · exact hreal .slMax _ rfl
    · exact hreal .slMin _ rfl
    · exact hreal .slCenter _ rfl
    · exact hreal .slUmid _ rfl
    · exact hreal .slLmid _ rfl
    · exact hreal .slMaxref _ rfl
    · exact hreal .slMinref _ rfl
    · exact hreal .slBufVal _ (by rw [hbuf]; rfl)
    · exact hreal .dmrBal _ rfl
    · exact hreal .dmrGain _ rfl

/-! ## Reset -/

/-- Settles O15: `RESET` is the power-on state with the ports and the counter kept. -/
theorem resetCommand : Obligations.ResetCommand := by
  unfold Obligations.ResetCommand
  exact fun s => rfl

/-- A register that shows a word answers it (R222). -/
theorem exec_csrr_of_read {s : State} {a : BitVec 12} {w : Word}
    (h : (Csr.ofAddr a).map (s.readCsr .binary32) = some w) : exec (.csrr a) s = .next (s.ended 1 [0x00000000#32, w]) := by
  obtain ⟨c, hc, rfl⟩ := Option.map_eq_some_iff.mp h
  exact exec_csrr hc s

/-- What an address shows after power-on, none where it is unmapped. -/
def shownAtReset (a : BitVec 12) : Option Word := (Csr.ofAddr a).map (State.reset.readCsr .binary32)

/-- Settles O16: the read words are closed evaluations, register by register. -/
theorem resetValues : Obligations.ResetValues := by
  unfold Obligations.ResetValues
  refine ⟨fun e he => exec_csrr_of_read ?_, fun r => rfl, rfl⟩
  exact (List.map_inj_left (f := fun e => shownAtReset e.1) (g := fun e => some e.2)).mp rfl e he

end Sys2Proof.Proofs.Csrs
end

section
/-! PROOF. What one step can be, and what one symbol of the chain can change: the inversion lemmas from which the statements
about the whole machine follow. -/

namespace Sys2Proof.Proofs.Steps
open Sys2Proof Sys2Proof.Machine Sys2Proof.Proofs

/-! ## One step -/

/-- The state after a `PROC` that completes (R223). -/
def procEnd (s : State) : State :=
  (block Params.default s s.csr.blockLength).1.done 1 (BitVec.ofNat 24 (block Params.default s s.csr.blockLength).2)

/-- What a step that answers a next state is (R148, R155, R186, R220 to R231). -/
inductive StepCase (s : State) : State → Prop
  /-- the block waits -/
  | wait : StepCase s s
  /-- the command is refused, with an error -/
  | refuse (n : Nat) (e : Status) (hn : n = 1 ∨ n = 2) (he : e ≠ .ok) : StepCase s (s.raise n e)
  /-- `NOP` and `CLASSIFY` -/
  | answer (payload : BitVec 24) : StepCase s (s.done 1 payload)
  /-- a legal write of a read-write CSR -/
  | csrw (r : Rw) (d : Word) (hd : r.legal d = true) : StepCase s ((s.writeRw r d).done 2 0#24)
  /-- a write of STATUS -/
  | status (d : Word) (h : decode s.ports.cmd = .instr (.csrw 0x001#12 d)) : StepCase s ((s.writeStatus d).done 2 0#24)
  /-- a read of a CSR -/
  | csrr (a : BitVec 12) (w : Word) (h : decode s.ports.cmd = .instr (.csrr a)) : StepCase s (s.respond 1 .ok 0#24 [w])
  /-- a `PROC` that completes -/
  | proc (h : decode s.ports.cmd = .instr .proc) (hok : s.csr.configOk Params.default = true)
      (hlen : s.csr.blockLength ≤ s.ports.iqIn.length) :
      StepCase s (procEnd s)
  /-- `RETUNE_RESET` -/
  | retune : StepCase s (State.Of.done { s with rr := true } 1 0#24)
  /-- `RESET` -/
  | reset (h : decode s.ports.cmd = .instr .reset) : StepCase s ((s.powerOn Params.default).done 1 0#24)
  /-- `WSTART` -/
  | wstart (n : Nat) (payload : BitVec 24) : StepCase s ((warmStart .binary32 s.latch n).1.done 1 payload)
  /-- `WSTART_CQ` -/
  | wstartCq (n : Nat) (payload : BitVec 24) : StepCase s ((warmStartCq .binary32 s.latch n).1.done 1 payload)
  /-- `DMR_ROS` -/
  | dmrRos : StepCase s ((rosEvent (dmrRos Params.default s.latch).1 (dmrRos Params.default s.latch).2).done 1
      (rosPayload (dmrRos Params.default s.latch).2))

/-- A mapped address stands in the map with its register. -/
theorem mem_csrMap_of_ofAddr {a : BitVec 12} {c : Csr} (h : Csr.ofAddr a = some c) : (a, c) ∈ csrMap := by
  obtain ⟨e, he, rfl⟩ := Option.map_eq_some_iff.mp h
  have ha : e.1 = a := by simpa using List.find?_some he
  exact ha ▸ List.mem_of_find?_eq_some he

/-- STATUS has one address (R72). -/
theorem addr_of_status {a : BitVec 12} (h : Csr.ofAddr a = some .status) : a = 0x001#12 := by
  simpa [csrMap] using mem_csrMap_of_ofAddr h

theorem stepCase_csrw {s t : State} {a : BitVec 12} {d : Word} (hdec : decode s.ports.cmd = .instr (.csrw a d))
    (h : execCsrw a d s = .next t) : StepCase s t := by
  unfold execCsrw at h
  split at h
  · cases h; exact .refuse 2 _ (.inr rfl) (by decide)
  · next ha => cases h; exact .status d (addr_of_status ha ▸ hdec)
  · cases h; exact .refuse 2 _ (.inr rfl) (by decide)
  · split at h
    · next hd => cases h; exact .csrw _ d hd
    · cases h; exact .refuse 2 _ (.inr rfl) (by decide)

theorem stepCase_proc {s t : State} (hdec : decode s.ports.cmd = .instr .proc)
    (h : execProcWith Params.default s = .next t) : StepCase s t := by
  unfold execProcWith at h
  split at h
  · next hok =>
    split at h
    · next hlen => cases h; exact .proc hdec hok hlen
    · cases h; exact .wait
  · cases h; exact .refuse 1 _ (.inl rfl) (by decide)

/-- The step of an instruction that the decoder gives. -/
theorem stepCase_exec {s t : State} {i : Instr} (hdec : decode s.ports.cmd = .instr i) (h : exec i s = .next t) :
    StepCase s t := by
  obtain ⟨-, hstage, -⟩ := Codec.readFrom_of_decode hdec
  cases i with
  | nop => cases h; exact .answer 0#24
  | csrw a d => exact stepCase_csrw hdec h
  | csrr a =>
    change execCsrrWith .binary32 a s = _ at h
    unfold execCsrrWith at h
    split at h
    · cases h; exact .refuse 1 _ (.inl rfl) (by decide)
    · cases h; exact .csrr a _ hdec
  | proc => exact stepCase_proc hdec h
  | retuneReset => cases h; exact .retune
  | reset => cases h; exact .reset hdec
  | wstart n =>
    change execWstartWith .binary32 n s = _ at h
    unfold execWstartWith at h
    split at h
    · cases h; exact .refuse 1 _ (.inl rfl) (by decide)
    · cases h; exact .wstart n _
  | wstartCq n =>
    change execWstartCqWith .binary32 n s = _ at h
    unfold execWstartCqWith at h
    split at h
    · cases h; exact .refuse 1 _ (.inl rfl) (by decide)
    · cases h; exact .wstartCq n _
  | dmrRos => cases h; exact .dmrRos
  | classify id => cases h; exact .answer _
  | _ => cases hstage

theorem decode_words {ws : List Word} {n : Nat} (h : decode ws = .badFormat n) : n = 1 ∨ n = 2 := by
  cases ws with
  | nil => cases h
  | cons w rest =>
    have hbare {i : Instr} (h : decodeBare w i = .badFormat n) : n = 1 ∨ n = 2 := by
      unfold decodeBare at h; split at h <;> cases h; exact .inl rfl
    have himm {i : Instr} (h : decodeImm w i = .badFormat n) : n = 1 ∨ n = 2 := by
      unfold decodeImm at h; split at h <;> cases h; exact .inl rfl
    have hreg {k : Nat} {i : Instr} (hk : k = 1 ∨ k = 2) (h : decodeReg w k i = .badFormat n) : n = 1 ∨ n = 2 := by
      unfold decodeReg at h; split at h <;> cases h; exact hk
    cases ho : Op.ofCode (opField w) with
    | none => simp only [decode, ho] at h; cases h
    | some o =>
      simp only [decode, ho] at h
      cases o with
      | nop => exact hbare h
      | proc => exact hbare h
      | retuneReset => exact hbare h
      | reset => exact hbare h
      | dmrRos => exact hbare h
      | wstart => exact himm h
      | wstartCq => exact himm h
      | classify => exact himm h
      | csrr => exact hreg (.inl rfl) h
      | csrw =>
        cases rest with
        | nil => cases h
        | cons d rest => exact hreg (.inr rfl) h

/-- The cases of a step, said once: every statement about a step follows from them. -/
theorem step_cases {s t : State} (h : step s = .next t) : StepCase s t := by
  unfold step at h
  cases hdec : decode s.ports.cmd with
  | wait => rw [hdec] at h; cases h; exact .wait
  | illegalOp => rw [hdec] at h; cases h; exact .refuse 1 _ (.inl rfl) (by decide)
  | badFormat n => rw [hdec] at h; cases h; exact .refuse n _ (decode_words hdec) (by decide)
  | instr i => rw [hdec] at h; exact stepCase_exec hdec h

/-! ## What the sample stages do not touch -/

/-- The elements that no stage before the slicer changes (R43 to R65). -/
structure Control (R : Type) where
  csr : CsrFile
  cfg : CsrFile
  sl : Slicer R
  sh : History R
  sync : Sync
  perm : Perm
  permLock : Bool
  dmr : DmrEq R
  symcount : Word
  err : Bool
  lastErr : BitVec 8
  lastWs : BitVec 3
  rr : Bool
  key : DesignKey
  free : Nat
  iqIn : List IqSample
  cmd : List Word
  resp : List Word
  symOut : List (SymEntry R)
  syncOut : List SyncEvent
  nsym : Nat

variable {R : Type}

def control (s : State.Of R) : Control R :=
  ⟨s.csr, s.cfg, s.sl, s.sh, s.sync, s.perm, s.permLock, s.dmr, s.symcount, s.err, s.lastErr, s.lastWs, s.rr, s.key, s.free,
    s.ports.iqIn, s.ports.cmd, s.ports.resp, s.ports.symOut, s.ports.syncOut, s.work.nsym⟩

@[simp] theorem stageFs4_control (F : RealFormat R) (s : State.Of R) : control (stageFs4 F s) = control s := by
  rw [stageFs4_frame, stageFs4_work]; rfl
@[simp] theorem stageHb_control (p : Params R) (s : State.Of R) : control (stageHb p s) = control s := by
  rw [stageHb_frame, stageHb_work]; rfl
@[simp] theorem stageDcb_control (F : RealFormat R) (s : State.Of R) : control (stageDcb F s) = control s := by
  rw [stageDcb_frame, stageDcb_work]; rfl
@[simp] theorem stageAgc_control (F : RealFormat R) (s : State.Of R) : control (stageAgc F s) = control s := by
  rw [stageAgc_frame, stageAgc_work]; rfl
@[simp] theorem stageLim_control (F : RealFormat R) (s : State.Of R) : control (stageLim F s) = control s := by
  rw [stageLim_frame, stageLim_work]; rfl
@[simp] theorem stageIqb_control (F : RealFormat R) (s : State.Of R) : control (stageIqb F s) = control s := by
  rw [stageIqb_frame, stageIqb_work]; rfl
@[simp] theorem stageBefll_control (F : RealFormat R) (s : State.Of R) : control (stageBefll F s) = control s := by
  rw [stageBefll_frame, stageBefll_work]; rfl
@[simp] theorem stageCostas_control (F : RealFormat R) (s : State.Of R) : control (stageCostas F s) = control s := by
  rw [stageCostas_frame, stageCostas_work]; rfl
@[simp] theorem stageTed_control (F : RealFormat R) (s : State.Of R) : control (stageTed F s) = control s := by
  rw [stageTed_frame, stageTed_work]; rfl
@[simp] theorem stageEq_control (F : RealFormat R) (s : State.Of R) : control (stageEq F s) = control s := by
  rw [stageEq_frame, stageEq_work]; rfl
@[simp] theorem stageLfll_control (F : RealFormat R) (s : State.Of R) : control (stageLfll F s) = control s := by
  rw [stageLfll_frame, stageLfll_work]; rfl
@[simp] theorem stageDisc_control (p : Params R) (s : State.Of R) : control (stageDisc p s) = control s := by
  rw [stageDisc_frame, stageDisc_work]; rfl
@[simp] theorem realStream_control (F : RealFormat R) (s : State.Of R) : control (realStream F s) = control s := rfl
@[simp] theorem stageDeemph_control (F : RealFormat R) (s : State.Of R) : control (stageDeemph F s) = control s := by
  rw [stageDeemph_frame, stageDeemph_work]; rfl
@[simp] theorem stageChlpf_control (F : RealFormat R) (s : State.Of R) : control (stageChlpf F s) = control s := by
  rw [stageChlpf_frame, stageChlpf_work]; rfl
@[simp] theorem stageAlpf_control (F : RealFormat R) (s : State.Of R) : control (stageAlpf F s) = control s := by
  rw [stageAlpf_frame, stageAlpf_work]; rfl
@[simp] theorem stageResamp_control (F : RealFormat R) (s : State.Of R) : control (stageResamp F s) = control s := by
  rw [stageResamp_frame, stageResamp_work]; rfl
@[simp] theorem stageDiff_control (F : RealFormat R) (s : State.Of R) : control (stageDiff F s) = control s := by
  rw [stageDiff_frame, stageDiff_work]; rfl

/-- The audio output pushes audio and nothing else. -/
@[simp] theorem audioOutput_control (p : Params R) (s : State.Of R) : control (audioOutput p s) = control s := by
  have hfold (zs : List (Cplx R)) (t : State.Of R) :
      control (zs.foldl (fun t z => t.audioPush p (audioSample p.real z)) t) = control t := by
    induction zs generalizing t with
    | nil => rfl
    | cons z zs ih => exact ih _
  unfold audioOutput
  split
  · exact hfold s.work.xs s
  · rfl

/-! ## The path of a block -/

/-- What a path runs before the slicer chain (R260). -/
def pathStages (p : Params R) (s : State.Of R) : State.Of R :=
  if s.cq then
    stageDiff p.real (stageEq p.real (stageTed p.real (stageCostas p.real (stageBefll p.real (stageResamp p.real
      (stageChlpf p.real (stageIqb p.real (stageDcb p.real (stageHb p (stageFs4 p.real s))))))))))
  else stageTed p.real (audioOutput p (Commands.beforeAudio p s))

theorem runPath_eq (p : Params R) (s : State.Of R) : runPath p s = stageSlice p (pathStages p s) := by
  unfold runPath pathStages
  split <;> rfl

@[simp] theorem pathStages_control (p : Params R) (s : State.Of R) : control (pathStages p s) = control s := by
  unfold pathStages
  split
  · simp
  · simp [Commands.beforeAudio, Commands.fmRealStages, Commands.fmComplexStages]

/-! ## The symbol chain -/

/-- What every symbol keeps, the slicer keeps (R458). -/
theorem stageSlice_keeps (P : State.Of R → Prop) (p : Params R) (hstep : ∀ s x, P s → P (symbolStep p s x))
    (hend : ∀ s, P s → P { s with work := { s.work with xs := [] } }) (s : State.Of R) (hs : P s) : P (stageSlice p s) := by
  have hfold (zs : List (Cplx R)) (t : State.Of R) (ht : P t) :
      P (zs.foldl (fun t z => symbolStep p t (slicerInput p t.cfg z)) t) := by
    induction zs generalizing t with
    | nil => exact ht
    | cons z zs ih => exact ih _ (hstep t _ ht)
  unfold stageSlice
  dsimp only
  split
  · exact hend _ (hfold s.work.xs s hs)
  · exact hend _ hs

/-- A permutation search leaves the permutation and the lock, or locks a candidate (R520). -/
theorem stagePerm_spec (p : Params R) (s : State.Of R) :
    stagePerm p s = s ∨ ∃ π ∈ permCandidates, stagePerm p s = { s with perm := π, permLock := true } := by
  unfold stagePerm
  split
  · exact permStep_spec p s
  · exact .inl rfl

/-- What the scanner can do with a dibit (R512): shift it in and search, and then run a detection or not. -/
theorem scan_spec (p : Params R) (s : State.Of R) (d : Dibit) :
    scan p s d = stagePerm p (srPush s d) ∨ ∃ e ∈ p.syncTable, scan p s d = detect p (stagePerm p (srPush s d)) e := by
  unfold scan
  dsimp only
  split
  · next e he => exact .inr ⟨e, List.mem_of_find?_eq_some he, rfl⟩
  · exact .inl rfl

/-- Resample-on-sync leaves the DMR equalizer, or has initialized it (R480, R486). -/
theorem dmrRos_dmr (p : Params R) (s : State.Of R) : (dmrRos p s).1.dmr = s.dmr ∨ (dmrRos p s).1.dmr.init = true := by
  unfold dmrRos
  split
  · exact .inl rfl
  · exact .inr rfl

/-- What the part of a detection between its start and its event can change (R470, R480, R512). -/
theorem detectBody_spec (p : Params R) (s : State.Of R) (b : Prop) [Decidable b] :
    ∃ dmr sl lastWs sh free ws ros, (dmr = s.dmr ∨ dmr.init = true) ∧
      (if b then stageDmrRos p s else stageWs p.real s) =
        { s with
          dmr := dmr, sl := sl, lastWs := lastWs, sh := sh, free := free
          work := { s.work with ws := ws, ros := ros } } := by
  split
  · obtain ⟨dmr, sl, lastWs, sh, free, ws, ros, h⟩ := stageDmrRos_frame p s
    refine ⟨dmr, sl, lastWs, sh, free, ws, ros, ?_, h⟩
    have hdmr : (stageDmrRos p s).dmr = dmr := by rw [h]
    rw [← hdmr]
    unfold stageDmrRos
    split
    · exact dmrRos_dmr p s
    · exact .inl rfl
  · obtain ⟨sl, lastWs, ws, h⟩ := stageWs_frame p.real s
    exact ⟨s.dmr, sl, lastWs, s.sh, s.free, ws, s.work.ros, .inl rfl, h⟩

/-- What a detection can do (R512): one event leaves, with the new sync record. -/
theorem detect_spec (p : Params R) (s : State.Of R) (e : SyncEntry) :
    ∃ dmr sl lastWs sh free ws ros, (dmr = s.dmr ∨ dmr.init = true) ∧
      detect p s e =
        { s with
          dmr := dmr, sl := sl, lastWs := lastWs, sh := sh, free := free
          sync := { s.sync with type := entryId s.cfg e, last := s.sync.type, pos := s.symcount - 1, srn := 0 }
          work := { s.work with syncLen := e.syncLen, ws := ws, ros := ros }
          ports := { s.ports with
            syncOut := s.ports.syncOut ++ [⟨entryId s.cfg e, s.symcount - 1, ws, s.permField, ros⟩] } } := by
  obtain ⟨dmr, sl, lastWs, sh, free, ws, ros, hinit, h⟩ :=
    detectBody_spec p (detectStart s e) (e.proto = dmrProto ∧ (detectStart s e).on .dmrRos)
  refine ⟨dmr, sl, lastWs, sh, free, ws, ros, hinit, ?_⟩
  unfold detect
  dsimp only
  rw [h]
  rfl

/-- How a state of the chain comes from an earlier one: what is appended, what only grows, and what stays (R144, R145,
R158, R458, R512, R521). -/
structure Chained (s t : State.Of R) : Prop where
  csr : t.csr = s.csr
  cfg : t.cfg = s.cfg
  err : t.err = s.err
  lastErr : t.lastErr = s.lastErr
  rr : t.rr = s.rr
  key : t.key = s.key
  cos : t.cos = s.cos
  ted : t.ted = s.ted
  be : t.be = s.be
  de : t.de = s.de
  al : t.al = s.al
  ch : t.ch = s.ch
  rs : t.rs = s.rs
  iqIn : t.ports.iqIn = s.ports.iqIn
  cmd : t.ports.cmd = s.ports.cmd
  resp : t.ports.resp = s.ports.resp
  audioOut : t.ports.audioOut = s.ports.audioOut
  permLock : s.permLock = true → t.permLock = true
  dmrInit : s.dmr.init = true → t.dmr.init = true
  syncOut : s.ports.syncOut <+: t.ports.syncOut
  syncType : t.sync.type = s.sync.type ∨ s.ports.syncOut.length < t.ports.syncOut.length
  symOut : ∃ es : List (SymEntry R), t.ports.symOut = s.ports.symOut ++ es ∧ t.work.nsym = s.work.nsym + es.length ∧
    t.symcount = s.symcount + BitVec.ofNat 32 es.length ∧
    ∀ (k : Nat) (e : SymEntry R), es[k]? = some e → e.idx = s.symcount + BitVec.ofNat 32 k

theorem Chained.refl (s : State.Of R) : Chained s s where
  csr := rfl
  cfg := rfl
  err := rfl
  lastErr := rfl
  rr := rfl
  key := rfl
  cos := rfl
  ted := rfl
  be := rfl
  de := rfl
  al := rfl
  ch := rfl
  rs := rfl
  iqIn := rfl
  cmd := rfl
  resp := rfl
  audioOut := rfl
  permLock := id
  dmrInit := id
  syncOut := List.prefix_rfl
  syncType := .inl rfl
  symOut := ⟨[], by simp, rfl, by simp, by simp⟩

theorem Chained.trans {s t u : State.Of R} (h : Chained s t) (g : Chained t u) : Chained s u where
  csr := g.csr.trans h.csr
  cfg := g.cfg.trans h.cfg
  err := g.err.trans h.err
  lastErr := g.lastErr.trans h.lastErr
  rr := g.rr.trans h.rr
  key := g.key.trans h.key
  cos := g.cos.trans h.cos
  ted := g.ted.trans h.ted
  be := g.be.trans h.be
  de := g.de.trans h.de
  al := g.al.trans h.al
  ch := g.ch.trans h.ch
  rs := g.rs.trans h.rs
  iqIn := g.iqIn.trans h.iqIn
  cmd := g.cmd.trans h.cmd
  resp := g.resp.trans h.resp
  audioOut := g.audioOut.trans h.audioOut
  permLock := fun hs => g.permLock (h.permLock hs)
  dmrInit := fun hs => g.dmrInit (h.dmrInit hs)
  syncOut := h.syncOut.trans g.syncOut
  syncType := by
    have hlen := h.syncOut.length_le
    have hlen' := g.syncOut.length_le
    rcases h.syncType with hty | hty <;> rcases g.syncType with gty | gty
    · exact .inl (gty.trans hty)
    all_goals exact .inr (by omega)
  symOut := by
    obtain ⟨es, hes, hn, hc, hidx⟩ := h.symOut
    obtain ⟨fs, hfs, gn, gc, gidx⟩ := g.symOut
    refine ⟨es ++ fs, by rw [hfs, hes, List.append_assoc], by rw [gn, hn, List.length_append, Nat.add_assoc],
      by rw [gc, hc, List.length_append, BitVec.add_assoc, BitVec.ofNat_add], fun k e hk => ?_⟩
    rw [List.getElem?_append] at hk
    split at hk
    · exact hidx k e hk
    · next hlt =>
      rw [gidx _ e hk, hc, BitVec.add_assoc, ← BitVec.ofNat_add]
      congr 2
      omega

theorem srPush_chained (s : State.Of R) (d : Dibit) : Chained s (srPush s d) := { Chained.refl s with }

theorem stagePerm_chained (p : Params R) (s : State.Of R) : Chained s (stagePerm p s) := by
  rcases stagePerm_spec p s with h | ⟨π, -, h⟩ <;> rw [h]
  · exact .refl s
  · exact { Chained.refl s with permLock := fun _ => rfl }

theorem detect_chained (p : Params R) (s : State.Of R) (e : SyncEntry) : Chained s (detect p s e) := by
  obtain ⟨dmr, sl, lastWs, sh, free, ws, ros, hinit, h⟩ := detect_spec p s e
  rw [h]
  exact { Chained.refl s with
    dmrInit := fun hs => hinit.elim (fun hd => hd ▸ hs) id
    syncOut := List.prefix_append _ _
    syncType := .inr (by simp) }

theorem stageScan_chained (p : Params R) (s : State.Of R) : Chained s (stageScan p s) := by
  unfold stageScan
  split
  · have hsearch := (srPush_chained s s.work.d).trans (stagePerm_chained p _)
    rcases scan_spec p s s.work.d with h | ⟨e, -, h⟩ <;> rw [h]
    · exact hsearch
    · exact hsearch.trans (detect_chained p _ e)
  · exact .refl s

/-- The step before the scanner slices one symbol (R458). -/
theorem sliceSymbol_chained (p : Params R) (s : State.Of R) (x : R) : Chained s (sliceSymbol p s x) := by
  have hone (t : State.Of R) (e : SymEntry R) (hout : t.ports.symOut = s.ports.symOut ++ [e])
      (hn : t.work.nsym = s.work.nsym + 1) (hc : t.symcount = s.symcount + 1) (he : e.idx = s.symcount) :
      ∃ es : List (SymEntry R), t.ports.symOut = s.ports.symOut ++ es ∧ t.work.nsym = s.work.nsym + es.length ∧
        t.symcount = s.symcount + BitVec.ofNat 32 es.length ∧
        ∀ (k : Nat) (e : SymEntry R), es[k]? = some e → e.idx = s.symcount + BitVec.ofNat 32 k := by
    refine ⟨[e], hout, hn, hc, fun k e' hk => ?_⟩
    cases k with
    | zero => cases hk; simpa using he
    | succ k => simp at hk
  unfold sliceSymbol
  dsimp only
  split
  · exact { Chained.refl s with symOut := hone _ _ rfl rfl rfl rfl }
  · exact { Chained.refl s with symOut := hone _ _ rfl rfl rfl rfl }

theorem symbolStep_chained (p : Params R) (s : State.Of R) (x : R) : Chained s (symbolStep p s x) :=
  (sliceSymbol_chained p s x).trans (stageScan_chained p _)

/-- The slicer chain over a stream (R458). -/
theorem stageSlice_chained (p : Params R) (s : State.Of R) : Chained s (stageSlice p s) :=
  stageSlice_keeps (Chained s) p (fun t x h => h.trans (symbolStep_chained p t x))
    (fun t h => h.trans { Chained.refl t with }) s (.refl s)

end Sys2Proof.Proofs.Steps
end

section
/-! PROOF. A whole `PROC` (R223, R261, R262) by its three parts, what precedes the stages, the stages before the slicer and the
slicer chain; and the statements about the whole machine that need no sizes: one response per command, the sync type, the
sticky flags (R127, R155, R158). -/

namespace Sys2Proof.Proofs.Steps
open Sys2Proof Sys2Proof.Machine Sys2Proof.Proofs

variable {R : Type}

/-! ## The Costas flag through the stages -/

@[simp] theorem stageFs4_cos (F : RealFormat R) (s : State.Of R) : (stageFs4 F s).cos = s.cos := by rw [stageFs4_frame]
@[simp] theorem stageHb_cos (p : Params R) (s : State.Of R) : (stageHb p s).cos = s.cos := by rw [stageHb_frame]
@[simp] theorem stageDcb_cos (F : RealFormat R) (s : State.Of R) : (stageDcb F s).cos = s.cos := by rw [stageDcb_frame]
@[simp] theorem stageAgc_cos (F : RealFormat R) (s : State.Of R) : (stageAgc F s).cos = s.cos := by rw [stageAgc_frame]
@[simp] theorem stageLim_cos (F : RealFormat R) (s : State.Of R) : (stageLim F s).cos = s.cos := by rw [stageLim_frame]
@[simp] theorem stageIqb_cos (F : RealFormat R) (s : State.Of R) : (stageIqb F s).cos = s.cos := by rw [stageIqb_frame]
@[simp] theorem stageBefll_cos (F : RealFormat R) (s : State.Of R) : (stageBefll F s).cos = s.cos := by
  rw [stageBefll_frame]
@[simp] theorem stageTed_cos (F : RealFormat R) (s : State.Of R) : (stageTed F s).cos = s.cos := by rw [stageTed_frame]
@[simp] theorem stageEq_cos (F : RealFormat R) (s : State.Of R) : (stageEq F s).cos = s.cos := by rw [stageEq_frame]
@[simp] theorem stageLfll_cos (F : RealFormat R) (s : State.Of R) : (stageLfll F s).cos = s.cos := by rw [stageLfll_frame]
@[simp] theorem stageDisc_cos (p : Params R) (s : State.Of R) : (stageDisc p s).cos = s.cos := by rw [stageDisc_frame]
@[simp] theorem realStream_cos (F : RealFormat R) (s : State.Of R) : (realStream F s).cos = s.cos := rfl
@[simp] theorem stageDeemph_cos (F : RealFormat R) (s : State.Of R) : (stageDeemph F s).cos = s.cos := by
  rw [stageDeemph_frame]
@[simp] theorem stageChlpf_cos (F : RealFormat R) (s : State.Of R) : (stageChlpf F s).cos = s.cos := by
  rw [stageChlpf_frame]
@[simp] theorem stageAlpf_cos (F : RealFormat R) (s : State.Of R) : (stageAlpf F s).cos = s.cos := by rw [stageAlpf_frame]
@[simp] theorem stageResamp_cos (F : RealFormat R) (s : State.Of R) : (stageResamp F s).cos = s.cos := by
  rw [stageResamp_frame]
@[simp] theorem stageDiff_cos (F : RealFormat R) (s : State.Of R) : (stageDiff F s).cos = s.cos := by rw [stageDiff_frame]

/-- A symbol of the Costas loop leaves its flag set (R318). -/
theorem costasStep_init (F : RealFormat R) (alpha beta fm : R) (c : Costas R) (yk : Cplx R) :
    (costasStep F alpha beta fm c yk).1.init = true := rfl

/-- The Costas stage does not clear its flag (R318). -/
theorem stageCostas_init (F : RealFormat R) (s : State.Of R) (hs : s.cos.init = true) : (stageCostas F s).cos.init = true := by
  unfold stageCostas
  split
  · refine transduce_keeps (fun st : Costas R × Ted R => st.1.init = true) _ (fun st x h => ?_) (s.cos, s.ted) _ hs
    exact transduce_keeps (fun c : Costas R => c.init = true) _ (fun c yk _ => costasStep_init F _ _ _ c yk) _ _ h
  · exact hs

@[simp] theorem audioOutput_cos (p : Params R) (s : State.Of R) : (audioOutput p s).cos = s.cos := by
  have hfold (zs : List (Cplx R)) (t : State.Of R) :
      (zs.foldl (fun t z => t.audioPush p (audioSample p.real z)) t).cos = t.cos := by
    induction zs generalizing t with
    | nil => rfl
    | cons z zs ih => exact ih _
  unfold audioOutput
  split
  · exact hfold s.work.xs s
  · rfl

theorem pathStages_cosInit (p : Params R) (s : State.Of R) (hs : s.cos.init = true) : (pathStages p s).cos.init = true := by
  unfold pathStages
  split
  · simp only [stageDiff_cos, stageEq_cos, stageTed_cos]
    exact stageCostas_init _ _ (by simpa using hs)
  · simpa [Commands.beforeAudio, Commands.fmRealStages, Commands.fmComplexStages] using hs

/-! ## What precedes the stages -/

/-- The control part but for the design keys. -/
def controlButKey (s : State.Of R) : Control R := { control s with key := DesignKey.none }

@[simp] theorem designHb_control (p : Params R) (s : State.Of R) :
    controlButKey (designHb p s) = controlButKey s ∧ (designHb p s).cos = s.cos := by
  rw [designHb_frame]; exact ⟨rfl, rfl⟩
@[simp] theorem designBe_control (F : RealFormat R) (s : State.Of R) :
    controlButKey (designBe F s) = controlButKey s ∧ (designBe F s).cos = s.cos := by
  rw [designBe_frame]; exact ⟨rfl, rfl⟩
@[simp] theorem designTed_control (F : RealFormat R) (s : State.Of R) :
    controlButKey (designTed F s) = controlButKey s ∧ (designTed F s).cos = s.cos := by
  rw [designTed_frame]; exact ⟨rfl, rfl⟩
@[simp] theorem designEq_control (F : RealFormat R) (s : State.Of R) :
    controlButKey (designEq F s) = controlButKey s ∧ (designEq F s).cos = s.cos := by
  rw [designEq_frame]; exact ⟨rfl, rfl⟩
@[simp] theorem designDe_control (F : RealFormat R) (s : State.Of R) :
    controlButKey (designDe F s) = controlButKey s ∧ (designDe F s).cos = s.cos := by
  rw [designDe_frame]; exact ⟨rfl, rfl⟩
@[simp] theorem designCh_control (p : Params R) (s : State.Of R) :
    controlButKey (designCh p s) = controlButKey s ∧ (designCh p s).cos = s.cos := by
  rw [designCh_frame]; exact ⟨rfl, rfl⟩
@[simp] theorem designAl_control (F : RealFormat R) (s : State.Of R) :
    controlButKey (designAl F s) = controlButKey s ∧ (designAl F s).cos = s.cos := by
  rw [designAl_frame]; exact ⟨rfl, rfl⟩
@[simp] theorem designRs_control (F : RealFormat R) (s : State.Of R) :
    controlButKey (designRs F s) = controlButKey s ∧ (designRs F s).cos = s.cos := by
  rw [designRs_frame]; exact ⟨rfl, rfl⟩

/-- The design step changes the designed sets and their keys (R264). -/
theorem design_control (p : Params R) (s : State.Of R) :
    controlButKey (design p s) = controlButKey s ∧ (design p s).cos = s.cos := by
  simp [design]

/-- What a pending retune reset leaves of the control part, and that its request is gone (R592, R593). -/
theorem applyRetune_control (p : Params R) (s : State.Of R) :
    control (applyRetune p s) = { control s with
      rr := false, sync := (applyRetune p s).sync, perm := (applyRetune p s).perm, permLock := (applyRetune p s).permLock } := by
  unfold applyRetune
  split
  · rfl
  · next h => simp [control, Bool.eq_false_iff.mpr h]

theorem applyRetune_of_not {p : Params R} {s : State.Of R} (h : s.rr = false) : applyRetune p s = s := by
  simp [applyRetune, h]

theorem applyRetune_syncType (p : Params R) (s : State.Of R) : (applyRetune p s).sync.type = s.sync.type := by
  unfold applyRetune
  split <;> rfl

/-! ## The block -/

/-- The state of a block before its slicer chain (R261). -/
def blockMid (p : Params R) (s : State.Of R) (n : Nat) : State.Of R := pathStages p (popSamples p.real (prepare p s) n)

theorem block_eq (p : Params R) (s : State.Of R) (n : Nat) :
    block p s n =
      ({ stageSlice p (blockMid p s n) with work := Work.idle }, (stageSlice p (blockMid p s n)).work.nsym) := by
  rw [block, runPath_eq]; rfl

theorem block_chained (p : Params R) (s : State.Of R) (n : Nat) :
    Chained (blockMid p s n) (stageSlice p (blockMid p s n)) := stageSlice_chained p _

/-- The control part of the state before the slicer chain (R261, R262). -/
theorem blockMid_control (p : Params R) (s : State.Of R) (n : Nat) :
    control (blockMid p s n) = { control s with
      cfg := s.csr
      rr := false
      sync := (applyRetune p s).sync
      perm := (applyRetune p s).perm
      permLock := (applyRetune p s).permLock
      key := (prepare p s).key
      free := s.free + 1
      iqIn := s.ports.iqIn.drop n
      nsym := 0 } := by
  obtain ⟨hdesign, -⟩ := design_control p (applyRetune p s).latch
  have hretune := applyRetune_control p s
  have hprep : control (prepare p s) = { control (applyRetune p s) with
      cfg := (applyRetune p s).csr, free := (applyRetune p s).free + 1, key := (prepare p s).key } :=
    congrArg (fun c : Control R => { c with key := (prepare p s).key }) hdesign
  have hcsr : (applyRetune p s).csr = s.csr := congrArg Control.csr hretune
  have hfree : (applyRetune p s).free = s.free := congrArg Control.free hretune
  have hin : (prepare p s).ports.iqIn = s.ports.iqIn := by rw [(Commands.prepare_cfg_ports p s).2]
  have hpop : control (popSamples p.real (prepare p s) n) =
      { control (prepare p s) with iqIn := (prepare p s).ports.iqIn.drop n, nsym := 0 } := rfl
  rw [blockMid, pathStages_control, hpop, hprep, hcsr, hfree, hin, hretune]

/-- Without a pending reset the Costas flag stays through what precedes the slicer chain (R318, R521). -/
theorem blockMid_cosInit {p : Params R} {s : State.Of R} (n : Nat) (hrr : s.rr = false) (h : s.cos.init = true) :
    (blockMid p s n).cos.init = true := by
  refine pathStages_cosInit _ _ ?_
  show (prepare p s).cos.init = true
  rw [prepare, (design_control p _).2, applyRetune_of_not hrr]
  exact h

/-- What a `PROC` that completes leaves (R223, R261, R262), element by element. -/
structure ProcEnd (s t : State) : Prop where
  csr : t.csr = s.csr
  cfg : t.cfg = s.csr
  err : t.err = s.err
  lastErr : t.lastErr = s.lastErr
  rr : t.rr = false
  work : t.work = Work.idle
  iqIn : t.ports.iqIn = s.ports.iqIn.drop s.csr.blockLength
  cmd : t.ports.cmd = s.ports.cmd.drop 1
  permLock : s.rr = false → s.permLock = true → t.permLock = true
  cosInit : s.rr = false → s.cos.init = true → t.cos.init = true
  dmrInit : s.dmr.init = true → t.dmr.init = true
  syncOut : s.ports.syncOut <+: t.ports.syncOut
  syncType : t.sync.type = s.sync.type ∨ s.ports.syncOut.length < t.ports.syncOut.length
  symOut : ∃ es : List (SymEntry F32), t.ports.symOut = s.ports.symOut ++ es ∧
    t.ports.resp = s.ports.resp ++ [0x00#8 ++ BitVec.ofNat 24 es.length] ∧
    t.symcount = s.symcount + BitVec.ofNat 32 es.length ∧
    ∀ (k : Nat) (e : SymEntry F32), es[k]? = some e → e.idx = s.symcount + BitVec.ofNat 32 k

theorem procEnd_spec (s : State) : ProcEnd s (procEnd s) := by
  have hmid := blockMid_control Params.default s s.csr.blockLength
  have hchain := block_chained Params.default s s.csr.blockLength
  have hdone : procEnd s = (block Params.default s s.csr.blockLength).1.done 1
      (BitVec.ofNat 24 (block Params.default s s.csr.blockLength).2) := rfl
  rw [block_eq] at hdone
  generalize hm : blockMid Params.default s s.csr.blockLength = m at *
  generalize stageSlice Params.default m = v at *
  have hsync : m.sync.type = s.sync.type :=
    (congrArg (fun c : Control F32 => c.sync.type) hmid).trans (applyRetune_syncType _ s)
  have hsyncOut : m.ports.syncOut = s.ports.syncOut := congrArg Control.syncOut hmid
  have hdmr : m.dmr = s.dmr := congrArg Control.dmr hmid
  rw [hdone]
  exact {
    csr := hchain.csr.trans (congrArg Control.csr hmid)
    cfg := hchain.cfg.trans (congrArg Control.cfg hmid)
    err := hchain.err.trans (congrArg Control.err hmid)
    lastErr := hchain.lastErr.trans (congrArg Control.lastErr hmid)
    rr := hchain.rr.trans (congrArg Control.rr hmid)
    work := rfl
    iqIn := hchain.iqIn.trans (congrArg Control.iqIn hmid)
    cmd := congrArg (List.drop 1) (hchain.cmd.trans (congrArg Control.cmd hmid))
    permLock := fun hrr hs => hchain.permLock
      ((congrArg Control.permLock hmid).trans (by rw [applyRetune_of_not hrr]; exact hs))
    cosInit := fun hrr hs => (congrArg Costas.init hchain.cos).trans (hm ▸ blockMid_cosInit _ hrr hs)
    dmrInit := fun hs => hchain.dmrInit (hdmr ▸ hs)
    syncOut := hsyncOut ▸ hchain.syncOut
    syncType := by rw [← hsync, ← hsyncOut]; exact hchain.syncType
    symOut := by
      obtain ⟨es, hes, hn, hc, hidx⟩ := hchain.symOut
      have hsym : m.ports.symOut = s.ports.symOut := congrArg Control.symOut hmid
      have hcount : m.symcount = s.symcount := congrArg Control.symcount hmid
      have hnsym : m.work.nsym = 0 := congrArg Control.nsym hmid
      have hresp : v.ports.resp = s.ports.resp := hchain.resp.trans (congrArg Control.resp hmid)
      rw [hsym] at hes
      rw [hcount] at hc hidx
      rw [hnsym, Nat.zero_add] at hn
      refine ⟨es, hes, ?_, hc, hidx⟩
      show v.ports.resp ++ [Status.ok.code ++ BitVec.ofNat 24 v.work.nsym] = _
      rw [hresp, hn]
      rfl }

theorem blockLength_eq (s : State) : s.csr.blockLength = (s.csr.get .blockLen).toNat % 2 ^ 19 :=
  Commands.field_zero s.csr .blockLen 19

theorem exec_proc {s : State} (hok : s.csr.configOk Params.default = true)
    (hlen : (s.csr.get .blockLen).toNat % 2 ^ 19 ≤ s.ports.iqIn.length) : exec .proc s = .next (procEnd s) := by
  show execProcWith Params.default s = _
  rw [execProcWith, if_pos hok, if_pos ((blockLength_eq s).symm ▸ hlen)]
  rfl

/-- Settles O19, from the parts of the block. -/
theorem procCompletes : Obligations.ProcCompletes := by
  unfold Obligations.ProcCompletes
  intro s hok hlen
  have h := procEnd_spec s
  obtain ⟨es, -, hresp, -⟩ := h.symOut
  exact ⟨procEnd s, _, exec_proc hok hlen, blockLength_eq s ▸ h.iqIn, h.cmd, hresp, h.rr, h.csr, h.cfg, h.err, h.lastErr,
    h.work⟩

/-- Settles O20, from the parts of the block. -/
theorem procCountsSymbols : Obligations.ProcCountsSymbols := by
  unfold Obligations.ProcCountsSymbols
  intro s hok hlen
  obtain ⟨es, hsym, hresp, hcount, hidx⟩ := (procEnd_spec s).symOut
  exact ⟨procEnd s, es, exec_proc hok hlen, hsym, hcount, hresp, hidx⟩

/-- Settles O21: the paths are compositions of the stages, each of which is what its instruction runs. -/
theorem procRunsStageInstructions : Obligations.ProcRunsStageInstructions := by
  unfold Obligations.ProcRunsStageInstructions
  intro s
  refine ⟨fun hcq => ?_, fun hcq => ?_, fun hok hlen => ?_⟩
  · rw [runPath, if_pos (show s.cq = true from hcq)]; rfl
  · refine ⟨_, _, rfl, rfl, ?_⟩
    rw [runPath, if_neg (by rw [State.Of.cq, hcq]; exact Bool.false_ne_true)]; rfl
  · exact exec_proc hok (blockLength_eq s ▸ hlen)

/-! ## The warm-start commands and DMR_ROS -/

/-- What a successful or refused warm-start leaves alone (R470, R475). -/
theorem warmStart_frame (F : RealFormat R) (s : State.Of R) (n : Nat) :
    ∃ sl lastWs, (warmStart F s n).1 = { s with sl := sl, lastWs := lastWs } := ⟨_, _, rfl⟩

theorem warmStartCq_frame (F : RealFormat R) (s : State.Of R) (n : Nat) :
    ∃ sl lastWs, (warmStartCq F s n).1 = { s with sl := sl, lastWs := lastWs } := ⟨_, _, rfl⟩

/-- What `DMR_ROS` leaves before it answers: at most one event, and the DMR equalizer as it was or initialized (R229). -/
theorem rosEvent_frame (p : Params R) (s : State.Of R) :
    ∃ dmr sl lastWs sh free es, (dmr = s.dmr ∨ dmr.init = true) ∧
      rosEvent (dmrRos p s).1 (dmrRos p s).2 =
        { s with
          dmr := dmr, sl := sl, lastWs := lastWs, sh := sh, free := free
          ports := { s.ports with syncOut := s.ports.syncOut ++ es } } := by
  obtain ⟨dmr, sl, lastWs, sh, free, h⟩ := dmrRos_frame p s
  have hdmr : (dmrRos p s).1.dmr = dmr := by rw [h]
  have hinit := dmrRos_dmr p s
  rw [hdmr] at hinit
  rw [h]
  unfold rosEvent
  split
  · exact ⟨dmr, sl, lastWs, sh, free, [_], hinit, rfl⟩
  · exact ⟨dmr, sl, lastWs, sh, free, [], hinit, by simp⟩

/-! ## The sync type and the flags -/

/-- Settles O57: of the cases of a step only `RESET` and `PROC` can change the type, `PROC` only with an event. -/
theorem synctypeStable : Obligations.SynctypeStable := by
  unfold Obligations.SynctypeStable
  intro s t h hne
  cases step_cases h with
  | reset hdec => exact .inl hdec
  | proc hdec hok hlen => exact .inr ⟨hdec, (procEnd_spec s).syncType.resolve_left hne⟩
  | wstart n payload =>
    obtain ⟨sl, lastWs, hw⟩ := warmStart_frame .binary32 s.latch n
    exact absurd (by rw [hw]; rfl) hne
  | wstartCq n payload =>
    obtain ⟨sl, lastWs, hw⟩ := warmStartCq_frame .binary32 s.latch n
    exact absurd (by rw [hw]; rfl) hne
  | dmrRos =>
    obtain ⟨dmr, sl, lastWs, sh, free, es, -, hros⟩ := rosEvent_frame Params.default s.latch
    exact absurd (by rw [hros]; rfl) hne
  | _ => exact absurd rfl hne

/-- A flag that is not cleared does not fall. -/
theorem not_falls {a b : Bool} {P : Prop} (h : a = true → b = true) (ha : a = true) (hb : b = false) : P :=
  absurd ((h ha).symm.trans hb) Bool.true_eq_false.mp

/-- A step that clears none of the flags. -/
theorem keepsFlags {s t : State} (herr : s.err = true → t.err = true) (hinit : s.dmr.init = true → t.dmr.init = true)
    (hlock : t.permLock = s.permLock) (hcos : t.cos = s.cos) {P Q S T : Prop} :
    (s.err = true → t.err = false → P) ∧ (s.dmr.init = true → t.dmr.init = false → Q) ∧
      (s.permLock = true → t.permLock = false → S) ∧ (s.cos.init = true → t.cos.init = false → T) :=
  ⟨not_falls herr, not_falls hinit, not_falls fun h => hlock.trans h, not_falls fun h => (congrArg Costas.init hcos).trans h⟩

/-- Settles O58, case by case of a step. -/
theorem flagsClearedOnlyAsStated : Obligations.FlagsClearedOnlyAsStated := by
  unfold Obligations.FlagsClearedOnlyAsStated
  intro s t h
  cases step_cases h with
  | reset hdec => exact ⟨fun _ _ => .inl hdec, fun _ _ => hdec, fun _ _ => .inl hdec, fun _ _ => .inl hdec⟩
  | status d hdec =>
    refine ⟨fun hs ht => .inr ⟨d, hdec, ?_⟩, not_falls id, not_falls id, not_falls id⟩
    have ht' : (s.err && !d.getLsbD 0) = false := ht
    simpa [hs] using ht'
  | proc hdec hok hlen =>
    have hp := procEnd_spec s
    refine ⟨not_falls fun h => hp.err.trans h, not_falls hp.dmrInit, ?_⟩
    by_cases hrr : s.rr = true
    · exact ⟨fun _ _ => .inr ⟨hdec, hrr⟩, fun _ _ => .inr ⟨hdec, hrr⟩⟩
    · have hrr := Bool.eq_false_iff.mpr hrr
      exact ⟨not_falls (hp.permLock hrr), not_falls (hp.cosInit hrr)⟩
  | wstart n payload =>
    obtain ⟨sl, lastWs, hw⟩ := warmStart_frame .binary32 s.latch n
    rw [hw]
    exact keepsFlags id id rfl rfl
  | wstartCq n payload =>
    obtain ⟨sl, lastWs, hw⟩ := warmStartCq_frame .binary32 s.latch n
    rw [hw]
    exact keepsFlags id id rfl rfl
  | dmrRos =>
    obtain ⟨dmr, sl, lastWs, sh, free, es, hinit, hros⟩ := rosEvent_frame Params.default s.latch
    rw [hros]
    have hkept : s.dmr.init = true → dmr.init = true := fun h =>
      hinit.elim (fun hd => (congrArg DmrEq.init hd).trans h) id
    exact ⟨not_falls id, not_falls hkept, not_falls id, not_falls id⟩
  | refuse n e hn he => exact keepsFlags (s := s) (t := s.raise n e) (fun _ => rfl) id rfl rfl
  | _ => exact keepsFlags id id rfl rfl

/-! ## One response per command -/

/-- How the ports after a command follow from those before (R146, R155, R156, R190), `a` saying whether audio may be
pushed. -/
def Answered (s t : State) (a : Prop) : Prop :=
  (∃ n, (n = 1 ∨ n = 2) ∧ t.ports.cmd = s.ports.cmd.drop n) ∧
    (∃ (code : BitVec 8) (payload : BitVec 24) (data : List Word),
      t.ports.resp = s.ports.resp ++ (code ++ payload) :: data ∧ data.length ≤ 1 ∧ code.toNat ≤ 6 ∧
        (code ≠ 0#8 → payload = 0#24) ∧
        (data ≠ [] → code = 0#8 ∧ ∃ a, decode s.ports.cmd = .instr (.csrr a))) ∧
    s.ports.symOut <+: t.ports.symOut ∧ s.ports.syncOut <+: t.ports.syncOut ∧ t.ports.iqIn <:+ s.ports.iqIn ∧
    (s.ports.wf = true →
      ∃ pushed, t.ports.audioOut =
          (s.ports.audioOut ++ pushed).drop ((s.ports.audioOut ++ pushed).length - 65535) ∧
        (pushed ≠ [] → a))

/-- An audio port within its capacity that nothing was pushed to. -/
theorem audio_kept {s t : State} {a : Prop} (h : t.ports.audioOut = s.ports.audioOut) (hwf : s.ports.wf = true) :
    ∃ pushed, t.ports.audioOut = (s.ports.audioOut ++ pushed).drop ((s.ports.audioOut ++ pushed).length - 65535) ∧
      (pushed ≠ [] → a) := by
  simp only [Ports.wf, Bool.and_eq_true, decide_eq_true_eq] at hwf
  have hlen : s.ports.audioOut.length ≤ 65535 := hwf.2
  refine ⟨[], ?_, fun h => absurd rfl h⟩
  rw [List.append_nil, Nat.sub_eq_zero_of_le hlen, List.drop_zero, h]

theorem Status.code_le (e : Status) : e.code.toNat ≤ 6 := by cases e <;> decide

/-- A command that ends with `respond` on a state of the same `CMD`, `RESP`, symbols, samples and audio. -/
theorem answered_respond {s u : State} {n : Nat} {e : Status} {payload : BitVec 24} {data : List Word} (a : Prop)
    (hn : n = 1 ∨ n = 2) (hcmd : u.ports.cmd = s.ports.cmd) (hresp : u.ports.resp = s.ports.resp)
    (hsym : u.ports.symOut = s.ports.symOut) (hsync : s.ports.syncOut <+: u.ports.syncOut)
    (hin : u.ports.iqIn = s.ports.iqIn) (haudio : u.ports.audioOut = s.ports.audioOut) (hpay : e ≠ .ok → payload = 0#24)
    (hdata : data = [] ∨ data.length = 1 ∧ e = .ok ∧ ∃ a, decode s.ports.cmd = .instr (.csrr a)) :
    Answered s (u.respond n e payload data) a := by
  refine ⟨⟨n, hn, congrArg (List.drop n) hcmd⟩, ⟨e.code, payload, data, congrArg (· ++ _) hresp, ?_, Status.code_le e, ?_, ?_⟩,
    hsym ▸ List.prefix_rfl, hsync, hin ▸ List.suffix_rfl, audio_kept haudio⟩
  · rcases hdata with rfl | ⟨hlen, -⟩
    · exact Nat.zero_le 1
    · exact hlen.le
  · exact fun hcode => hpay fun he => hcode (he ▸ rfl)
  · rcases hdata with rfl | ⟨-, rfl, hdec⟩
    · exact fun h => absurd rfl h
    · exact fun _ => ⟨rfl, hdec⟩

/-- The audio of a `PROC` (R146, R440): appended in MODE 0 only, and all but the newest entries lost. -/
theorem procEnd_audioOut (s : State) (hwf : s.ports.wf = true) :
    ∃ pushed, (procEnd s).ports.audioOut =
        (s.ports.audioOut ++ pushed).drop ((s.ports.audioOut ++ pushed).length - 65535) ∧
      (pushed ≠ [] → (s.csr.get .mode).toNat % 8 = 0) := by
  have hlen : s.ports.audioOut.length ≤ 65535 := by
    simp only [Ports.wf, Bool.and_eq_true, decide_eq_true_eq] at hwf
    exact hwf.2
  have hend : (procEnd s).ports.audioOut = (runPath Params.default (Commands.blockStart s)).ports.audioOut := by
    rw [procEnd, blockLength_eq]; rfl
  have hmode : (Commands.blockStart s).cfg.field .mode 0 3 = (s.csr.get .mode).toNat % 8 := by
    rw [Commands.blockStart_cfg]
    exact Commands.field_zero s.csr .mode 3
  by_cases hpush : (Commands.blockStart s).cfg.field .mode 0 3 = 0 ∧ (Commands.blockStart s).cfg.anyStage = true
  · refine ⟨(Commands.beforeAudio Params.default (Commands.blockStart s)).work.xs.map (audioSample .binary32), ?_,
      fun _ => hmode ▸ hpush.1⟩
    rw [hend, Commands.runPath_audioOut hpush.1 hpush.2 (by decide) (by rw [Commands.blockStart_audioOut]; exact hlen),
      Commands.blockStart_audioOut]
    rfl
  · refine audio_kept ?_ hwf
    rw [hend, Commands.runPath_audioOut_eq_self, Commands.blockStart_audioOut]
    by_contra hno
    rw [not_or, not_not, Bool.not_eq_false] at hno
    exact hpush hno

theorem answered_proc {s : State} (hdec : decode s.ports.cmd = .instr .proc) :
    Answered s (procEnd s) (decode s.ports.cmd = .instr .proc ∧ (s.csr.get .mode).toNat % 8 = 0) := by
  have h := procEnd_spec s
  obtain ⟨es, hes, hresp, -⟩ := h.symOut
  refine ⟨⟨1, .inl rfl, h.cmd⟩, ⟨0#8, _, [], hresp, Nat.zero_le 1, by decide, fun h => absurd rfl h, fun h => absurd rfl h⟩,
    hes ▸ List.prefix_append _ _, h.syncOut, h.iqIn ▸ List.drop_suffix _ _, fun hwf => ?_⟩
  obtain ⟨pushed, haudio, hmode⟩ := procEnd_audioOut s hwf
  exact ⟨pushed, haudio, fun hne => ⟨hdec, hmode hne⟩⟩

/-- Settles O59: a step waits, or it is one command, which ends with one response. -/
theorem oneResponsePerCommandInOrder : Obligations.OneResponsePerCommandInOrder := by
  unfold Obligations.OneResponsePerCommandInOrder
  intro s t h
  have plain {u : State} {n : Nat} {payload : BitVec 24} (hn : n = 1 ∨ n = 2) (hports : u.ports = s.ports) (a : Prop) :
      Answered s (u.done n payload) a :=
    answered_respond a hn (by rw [hports]) (by rw [hports]) (by rw [hports]) (by rw [hports]) (by rw [hports])
      (by rw [hports]) (fun he => absurd rfl he) (.inl rfl)
  cases step_cases h with
  | wait => exact .inl rfl
  | refuse n e hn he =>
    exact .inr (answered_respond (u := { s with err := true, lastErr := e.code }) _ hn rfl rfl rfl List.prefix_rfl rfl rfl
      (fun _ => rfl) (.inl rfl))
  | answer payload => exact .inr (plain (.inl rfl) rfl _)
  | csrw r d hd => exact .inr (plain (.inr rfl) rfl _)
  | status d hdec => exact .inr (plain (.inr rfl) rfl _)
  | csrr a w hdec =>
    exact .inr (answered_respond (u := s) _ (.inl rfl) rfl rfl rfl List.prefix_rfl rfl rfl (fun he => absurd rfl he)
      (.inr ⟨rfl, rfl, a, hdec⟩))
  | proc hdec hok hlen => exact .inr (answered_proc hdec)
  | retune => exact .inr (plain (u := { s with rr := true }) (.inl rfl) rfl _)
  | reset hdec => exact .inr (plain (.inl rfl) rfl _)
  | wstart n payload => exact .inr (plain (.inl rfl) rfl _)
  | wstartCq n payload => exact .inr (plain (.inl rfl) rfl _)
  | dmrRos =>
    obtain ⟨dmr, sl, lastWs, sh, free, es, -, hros⟩ := rosEvent_frame Params.default s.latch
    rw [hros]
    exact .inr (answered_respond _ (.inl rfl) rfl rfl rfl (List.prefix_append _ _) rfl rfl (fun he => absurd rfl he)
      (.inl rfl))

end Sys2Proof.Proofs.Steps
end

section
/-! PROOF. The configuration check of `PROC` (R263), and a `PROC` with every stage off (R223, R592, R593). -/

namespace Sys2Proof.Proofs.Steps
open Sys2Proof Sys2Proof.Machine Sys2Proof.Proofs

/-! ## The configuration check -/

theorem chlpfFcOf_eq (n : Nat) :
    chlpfFcOf n = [Rw.chlpfFc0, .chlpfFc1, .chlpfFc2, .chlpfFc3, .chlpfFc4].getD n .chlpfFc5 := by
  match n with
  | 0 | 1 | 2 | 3 | 4 | _ + 5 => rfl

theorem chlpfTwOf_eq (n : Nat) :
    chlpfTwOf n = [Rw.chlpfTw0, .chlpfTw1, .chlpfTw2, .chlpfTw3, .chlpfTw4].getD n .chlpfTw5 := by
  match n with
  | 0 | 1 | 2 | 3 | 4 | _ + 5 => rfl

theorem chProfile_eq (f : CsrFile) : f.chProfile = (f.get .chlpfCfg).toNat % 8 := Commands.field_zero f .chlpfCfg 3

theorem chFc_eq (f : CsrFile) :
    f.chFc = (f.get ([Rw.chlpfFc0, .chlpfFc1, .chlpfFc2, .chlpfFc3, .chlpfFc4].getD
      ((f.get .chlpfCfg).toNat % 8) .chlpfFc5)).toNat := by
  rw [CsrFile.chFc, chlpfFcOf_eq, chProfile_eq]

theorem chTw_eq (f : CsrFile) :
    f.chTw = (f.get ([Rw.chlpfTw0, .chlpfTw1, .chlpfTw2, .chlpfTw3, .chlpfTw4].getD
      ((f.get .chlpfCfg).toNat % 8) .chlpfTw5)).toNat := by
  rw [CsrFile.chTw, chlpfTwOf_eq, chProfile_eq]

theorem halvings_eq (f : CsrFile) :
    f.halvings = if f.stageOn .hb = true then (f.get .hbStages).toNat % 8 else 0 := by
  rw [CsrFile.halvings, Commands.field_zero]
  rfl

theorem cqpsk_eq (f : CsrFile) : f.cqpsk = decide ((f.get .mode).toNat % 8 = 2) := by
  rw [CsrFile.cqpsk, Commands.field_zero]
  rfl

/-- The designed tap count with the default windows (R404, R406). -/
theorem chNtaps_eq (f : CsrFile) :
    f.chNtaps Params.default =
      (let h := if f.stageOn .hb = true then (f.get .hbStages).toNat % 8 else 0
      let den := 22 * (f.get ([Rw.chlpfTw0, .chlpfTw1, .chlpfTw2, .chlpfTw3, .chlpfTw4].getD
        ((f.get .chlpfCfg).toNat % 8) .chlpfTw5)).toNat * 2 ^ h
      let up := ([53, 44, 74, 92, 27, 93, 21].getD ((f.get .chlpfCfg).toNat / 256 % 8) 0 * (f.get .fsIn).toNat + den - 1) / den
      if up % 2 = 0 then up + 1 else up) := by
  rw [← halvings_eq, ← chTw_eq]
  rfl

/-- What the check refuses, one way to be unusable after the other (R263). -/
theorem configOk_eq_false_iff (f : CsrFile) :
    f.configOk Params.default = false ↔
      (f.cqpsk = false ∧ f.stageOn .deemph = true ∧ (f.get .fsIn).toNat = 0) ∨
      (f.stageOn .chlpf = true ∧
        ((f.get .fsIn).toNat = 0 ∨ f.chFc = 0 ∨ f.chTw = 0 ∨ (f.get .fsIn).toNat ≤ f.chFc * 2 ^ (f.halvings + 1) ∨
          1023 < f.chNtaps Params.default)) ∨
      (f.cqpsk = false ∧ f.stageOn .alpf = true ∧ ((f.get .fsIn).toNat = 0 ∨ (f.get .alpfFc).toNat = 0)) := by
  simp only [CsrFile.configOk, CsrFile.chOk, Bool.and_eq_false_iff, Bool.not_eq_false', Bool.and_eq_true,
    Bool.not_eq_true', Bool.or_eq_true, beq_iff_eq, bne_eq_false_iff_eq, decide_eq_false_iff_not, Nat.not_lt, Nat.not_le,
    or_assoc, and_assoc]
  rfl

/-- A refused configuration ends with BAD_CONFIG (R263, R552). -/
theorem exec_proc_badConfig {s : State} (h : s.csr.configOk Params.default = false) :
    exec .proc s = .next (s.failed 1 0x06#8) := by
  show execProcWith Params.default s = _
  rw [execProcWith, if_neg (by rw [h]; exact Bool.false_ne_true)]
  rfl

/-- Settles O18: the refused configurations are those for which the check is false. -/
theorem procRefusesBadConfig : Obligations.ProcRefusesBadConfig := by
  unfold Obligations.ProcRefusesBadConfig
  intro s fs window profile fc tw h den up ntaps fm bad
  have hiff : s.csr.configOk Params.default = false ↔ bad := by
    rw [configOk_eq_false_iff, chNtaps_eq, chFc_eq, chTw_eq, halvings_eq, cqpsk_eq]
    simp only [bad, fm, decide_eq_false_iff_not, decide_eq_true_eq]
    rfl
  exact ⟨fun hbad => exec_proc_badConfig (hiff.mpr hbad), fun hgood => by
    rw [← Bool.not_eq_false, hiff]; exact hgood⟩

/-! ## Every stage off -/

/-- No stage operation is enabled (R76, R223). -/
def AllStagesOff (f : CsrFile) : Prop := f.get .stageEn &&& 0x007FFFFE#32 = 0#32

theorem AllStagesOff.stageOn {f : CsrFile} (h : AllStagesOff f) (k : Stage) : f.stageOn k = false := by
  have hk : (0x007FFFFE#32).getLsbD k.bit = true := by cases k <;> rfl
  have hbit := congrArg (fun v => v.getLsbD k.bit) h
  simpa only [CsrFile.stageOn, BitVec.getLsbD_and, hk, Bool.and_true, BitVec.getLsbD_zero] using hbit

theorem configOk_of_off {f : CsrFile} (h : AllStagesOff f) : f.configOk Params.default = true := by
  rw [← Bool.not_eq_false, configOk_eq_false_iff]
  simp [h.stageOn]

variable {R : Type}

/-- With every stage off no set is designed (R264). -/
theorem design_of_off (p : Params R) {s : State.Of R} (h : AllStagesOff s.cfg) : design p s = s := by
  have hon (k : Stage) : s.on k = false := h.stageOn k
  simp [design, designHb, designBe, designTed, designEq, designDe, designCh, designAl, designRs, State.Of.tedActive, hon]

/-- With every stage off the stages before the slicer at most take the real parts of the stream (R223, R260). -/
theorem pathStages_of_off (p : Params R) {s : State.Of R} (h : AllStagesOff s.cfg) :
    pathStages p s = s ∨ pathStages p s = realStream p.real s := by
  have hon (k : Stage) : s.on k = false := h.stageOn k
  have hsample : Commands.SampleStagesOff s.cfg := by
    have hmask : (0x0001F87E#32 : Word) = 0x007FFFFE#32 &&& 0x0001F87E#32 := by decide
    rw [Commands.SampleStagesOff, hmask, ← BitVec.and_assoc, show s.cfg.get .stageEn &&& 0x007FFFFE#32 = 0#32 from h]
    simp
  unfold pathStages
  split
  · left
    simp [stageFs4, stageHb, stageDcb, stageIqb, stageChlpf, stageResamp, stageBefll, stageCostas, stageTed,
      State.Of.tedAlone, stageEq, stageDiff, hon]
  · right
    have hany : (realStream p.real s).cfg.anyStage = false := by
      rw [← Bool.not_eq_true, Commands.anyStage_iff]
      exact not_not_intro h
    have hted : (realStream p.real s).tedAlone = false := by
      have hoff : (realStream p.real s).on .ted = false := hon .ted
      rw [State.Of.tedAlone, hoff, Bool.false_and]
    rw [Commands.beforeAudio_of_off p hsample, Commands.audioOutput_eq_self (.inr hany), stageTed, hted,
      if_neg Bool.false_ne_true]

/-- A slicer that is off drops the symbols (R458). -/
theorem stageSlice_of_off (p : Params R) {s : State.Of R} (h : s.on .slice = false) :
    stageSlice p s = { s with work := { s.work with xs := [] } } := by
  simp [stageSlice, h]

/-- With every stage off the block's samples are dropped, and nothing else happens (R223). -/
theorem runPath_of_off (p : Params R) {s : State.Of R} (h : AllStagesOff s.cfg) :
    runPath p s = { s with work := { s.work with xs := [] } } := by
  rw [runPath_eq]
  rcases pathStages_of_off p h with hs | hs <;> rw [hs]
  · exact stageSlice_of_off p (h.stageOn .slice)
  · exact stageSlice_of_off p (s := realStream p.real s) (h.stageOn .slice)

/-- The end of a `PROC` with every stage off (R223, R592, R593). -/
theorem procEnd_of_off {s : State} (h : AllStagesOff s.csr) :
    procEnd s = State.Of.done
      { applyRetune Params.default s with
        cfg := s.csr
        work := Work.idle
        free := s.free + 1
        ports := { s.ports with iqIn := s.ports.iqIn.drop s.csr.blockLength } } 1 0#24 := by
  have hcontrol := applyRetune_control Params.default s
  have hcsr : (applyRetune Params.default s).csr = s.csr := congrArg Control.csr hcontrol
  have hfree : (applyRetune Params.default s).free = s.free := congrArg Control.free hcontrol
  have hports : (applyRetune Params.default s).ports = s.ports := (Commands.applyRetune_csr_ports _ s).2
  have hlatch : AllStagesOff (applyRetune Params.default s).latch.cfg := by
    rw [State.latch_cfg, hcsr]; exact h
  have hprep : prepare Params.default s = (applyRetune Params.default s).latch := design_of_off _ hlatch
  have hrun := runPath_of_off Params.default
    (s := popSamples Params.default.real (applyRetune Params.default s).latch s.csr.blockLength) hlatch
  rw [procEnd, block, hprep, hrun]
  simp only [popSamples, State.Of.latch, hcsr, hfree, hports]
  rfl

/-- Settles O22: what is left of the block is the reset that is applied, the latch and the samples taken. -/
theorem procWithStagesOffAppliesRetune : Obligations.ProcWithStagesOffAppliesRetune := by
  unfold Obligations.ProcWithStagesOffAppliesRetune
  intro s hoff hlen sps base
  have hend : exec .proc s = .next (procEnd s) := exec_proc (configOk_of_off hoff) hlen
  rw [hend, procEnd_of_off hoff, blockLength_eq]
  refine ⟨fun hrr => ?_, fun hrr => ?_⟩
  · rw [applyRetune_of_not hrr]; rfl
  · have hsps : s.csr.sps = sps := Commands.field_zero s.csr .tedSps 8
    have hhb : hbReset Params.default = List.replicate 4 ⟨List.replicate 6 C32.zero, false⟩ := rfl
    rw [applyRetune, if_pos hrr, retuneReset, hsps, hhb]
    simp only [Ted.resetFor, Costas.reset, Lfll.reset, clearHistory, Perm.identity, State.Of.done, base, syncSrLen]
    rfl

end Sys2Proof.Proofs.Steps
end

section
/-! PROOF. The stages as transducers of the block's stream (R261): what each changes (O30), when it is the identity (O31),
and that cutting the stream does not show (O32). -/

namespace Sys2Proof.Proofs.Stages
open Sys2Proof Sys2Proof.Machine

variable {R : Type}

/-! ## What a stage leaves of its own state -/

theorem befllStep_keeps (F : RealFormat R) (b : BeFll R) (x : Cplx R) :
    (befllStep F b x).1 =
      { b with
        phase := (befllStep F b x).1.phase, freq := (befllStep F b x).1.freq, h := (befllStep F b x).1.h } := rfl

theorem stageBefll_be (F : RealFormat R) (s : State.Of R) :
    (stageBefll F s).be =
      { s.be with
        phase := (stageBefll F s).be.phase, freq := (stageBefll F s).be.freq, h := (stageBefll F s).be.h } := by
  unfold stageBefll
  split
  · exact transduce_keeps (fun b : BeFll R => b = { s.be with phase := b.phase, freq := b.freq, h := b.h }) _
      (fun b x h => by rw [befllStep_keeps]; rw [h]) _ _ rfl
  · rfl

theorem stageDeemph_de (F : RealFormat R) (s : State.Of R) :
    (stageDeemph F s).de = { s.de with y := (stageDeemph F s).de.y } := by
  unfold stageDeemph
  split
  · refine transduce_keeps (fun d : OnePole R => d = { s.de with y := d.y }) _ (fun d x h => ?_) _ _ rfl
    obtain ⟨y, hy⟩ := deemphStep_spec F d x.re
    rw [realStep, hy, h]
  · rfl

theorem stageAlpf_al (F : RealFormat R) (s : State.Of R) :
    (stageAlpf F s).al = { s.al with y := (stageAlpf F s).al.y } := by
  unfold stageAlpf
  split
  · exact transduce_keeps (fun d : OnePole R => d = { s.al with y := d.y }) _
      (fun d x h => congrArg (fun q : OnePole R => { q with y := F.ema d.a d.y x.re }) h) _ _ rfl
  · rfl

theorem stageChlpf_ch (F : RealFormat R) (s : State.Of R) :
    (stageChlpf F s).ch = { s.ch with h := (stageChlpf F s).ch.h } := by
  unfold stageChlpf
  split
  · exact transduce_keeps (fun c : ChLpf R => c = { s.ch with h := c.h }) _
      (fun c x h => congrArg (fun q : ChLpf R => { q with h := push c.h x }) h) _ _ rfl
  · rfl

/-- The outputs of one input move only the accumulator (R435). -/
theorem resampEmit_keeps (F : RealFormat R) (fuel k l m : Nat) (r : Resamp R) :
    (resampEmit F fuel k l m r).1 = { r with acc := (resampEmit F fuel k l m r).1.acc } := by
  induction fuel generalizing r with
  | zero => rfl
  | succ fuel ih =>
    rw [resampEmit]
    split
    · exact ih _
    · rfl

theorem resampStep_keeps (F : RealFormat R) (k l m : Nat) (r : Resamp R) (x : Cplx R) :
    (resampStep F k l m r x).1 = { r with h := push r.h x, acc := (resampStep F k l m r x).1.acc } := by
  rw [resampStep, resampEmit_keeps]

theorem stageResamp_rs (F : RealFormat R) (s : State.Of R) :
    (stageResamp F s).rs = { s.rs with h := (stageResamp F s).rs.h, acc := (stageResamp F s).rs.acc } := by
  unfold stageResamp
  split
  · exact transduce_keeps (fun r : Resamp R => r = { s.rs with h := r.h, acc := r.acc }) _
      (fun r x h => by rw [resampStep_keeps]; rw [h]) _ _ rfl
  · rfl

theorem tedStep_keeps (F : RealFormat R) (g : R) (d : Ted R) (x : Cplx R) :
    (tedStep F g d x).1 =
      { d with
        h := push d.h x, t := (tedStep F g d x).1.t, mu := (tedStep F g d x).1.mu,
        yprev := (tedStep F g d x).1.yprev } := by
  unfold tedStep tedStrobe
  dsimp only
  split <;> rfl

/-- Settles O30, from the frame of each stage. -/
theorem streamStagesFrame : Obligations.StreamStagesFrame := by
  unfold Obligations.StreamStagesFrame
  intro s
  refine ⟨⟨_, rfl, ?_⟩, ⟨_, rfl, ?_⟩, ⟨_, rfl, ?_⟩, ⟨_, rfl, ?_⟩, ⟨_, rfl, ?_⟩, ⟨_, rfl, ?_⟩, ⟨_, rfl, ?_⟩, ⟨_, rfl, ?_⟩,
    ⟨_, rfl, ?_⟩, ⟨_, rfl, ?_⟩, ⟨_, rfl, ?_⟩, ⟨_, rfl, ?_⟩, ⟨_, rfl, ?_⟩, ⟨_, rfl, ?_⟩, ⟨_, rfl, ?_⟩, ⟨_, rfl, ?_⟩, ⟨_, rfl, ?_⟩⟩
  · rw [← stageFs4_work]; exact stageFs4_frame _ s
  · rw [← stageHb_work]; exact stageHb_frame _ s
  · rw [← stageDcb_work]; exact stageDcb_frame _ s
  · rw [← stageAgc_work]; exact stageAgc_frame _ s
  · rw [← stageLim_work]; exact stageLim_frame _ s
  · rw [← stageIqb_work]; exact stageIqb_frame _ s
  · rw [← stageBefll_work, ← stageBefll_be]; exact stageBefll_frame _ s
  · rw [← stageCostas_work]; exact stageCostas_frame _ s
  · rw [← stageTed_work]; exact stageTed_frame _ s
  · rw [← stageEq_work]; exact stageEq_frame _ s
  · rw [← stageLfll_work]; exact stageLfll_frame _ s
  · rw [← stageDisc_work]; exact stageDisc_frame _ s
  · rw [← stageDeemph_work, ← stageDeemph_de]; exact stageDeemph_frame _ s
  · rw [← stageChlpf_work, ← stageChlpf_ch]; exact stageChlpf_frame _ s
  · rw [← stageAlpf_work, ← stageAlpf_al]; exact stageAlpf_frame _ s
  · rw [← stageResamp_work, ← stageResamp_rs]; exact stageResamp_frame _ s
  · rw [← stageDiff_work]; exact stageDiff_frame _ s

/-! ## When a stage is the identity -/

/-- An FM-family stage does not run where its bit is 0 or the path is the CQPSK one (R260). -/
theorem fmStage_idle {s : State.Of R} {k : Stage} (h : s.on k = false ∨ s.cfg.cqpsk = true) :
    ¬ (s.on k && !s.cq) = true := by
  rcases h with h | h <;> simp [State.Of.cq, h]

/-- A CQPSK stage does not run where its bit is 0 or the path is not the CQPSK one (R260). -/
theorem cqStage_idle {s : State.Of R} {k : Stage} (h : s.on k = false ∨ s.cfg.cqpsk = false) :
    ¬ (s.on k && s.cq) = true := by
  rcases h with h | h <;> simp [State.Of.cq, h]

theorem tedAlone_idle {s : State.Of R} (h : s.on .ted = false ∨ (s.cfg.cqpsk = true ∧ s.on .costas = true)) :
    ¬ s.tedAlone = true := by
  rcases h with h | ⟨hcq, hcos⟩
  · simp [State.Of.tedAlone, h]
  · simp [State.Of.tedAlone, State.Of.cq, hcq, hcos]

theorem resamp_idle {s : State.Of R} (h : s.on .resamp = false ∨ s.cfg.ratio.1 = s.cfg.ratio.2) :
    ¬ (s.on .resamp && decide (s.cfg.ratio.1 ≠ s.cfg.ratio.2)) = true := by
  rcases h with h | h <;> simp [h]

/-- Settles O31: each stage's guard is false. -/
theorem disabledStagesAreIdentity : Obligations.DisabledStagesAreIdentity := by
  unfold Obligations.DisabledStagesAreIdentity
  intro s
  have off {b : Bool} (h : b = false) : ¬ b = true := by rw [h]; exact Bool.false_ne_true
  refine ⟨fun h => ?_, fun h => ?_, fun h => ?_, fun h => ?_, fun h => ?_, fun h => ?_, fun h => ?_, fun h => ?_, fun h => ?_,
    fun h => ?_, fun h => ?_, fun h => ?_, fun h => ?_, fun h => ?_, fun h => ?_, fun h => ?_, fun h => ?_, fun h => ?_,
    fun h => ?_, fun h => ?_, fun h => ?_, fun h => ?_⟩ <;> refine congrArg Host.Outcome.next ?_
  · exact if_neg (off h)
  · exact if_neg (off h)
  · exact if_neg (off h)
  · exact if_neg (fmStage_idle h)
  · exact if_neg (fmStage_idle h)
  · exact if_neg (off h)
  · exact if_neg (cqStage_idle h)
  · exact if_neg (cqStage_idle h)
  · exact if_neg (tedAlone_idle h)
  · exact if_neg (cqStage_idle h)
  · exact if_neg (fmStage_idle h)
  · exact if_neg (fmStage_idle h)
  · exact if_neg (fmStage_idle h)
  · exact if_neg (off h)
  · exact if_neg (fmStage_idle h)
  · exact if_neg (resamp_idle h)
  · exact if_neg (cqStage_idle h)
  · exact Steps.stageSlice_of_off _ h
  · exact if_neg (off h)
  · exact if_neg (off h)
  · exact if_neg (off h)
  · exact if_neg (by rcases h with h | h <;> simp [State.Of.permOn, State.Of.cq, h])

/-! ## A stage as a transducer -/

/-- The part of the state that a stage carries from sample to sample, read and written. -/
structure StageField (σ : Type) where
  get : State → σ
  put : State → σ → State
  get_put : ∀ s a, get (put s a) = a
  put_put : ∀ s a b, put (put s a) b = put s b
  put_cfg : ∀ s a, (put s a).cfg = s.cfg
  get_withStream : ∀ s xs, get (s.withStream xs) = get s
  put_withStream : ∀ s xs a, put (s.withStream xs) a = (put s a).withStream xs

variable {σ : Type}

/-- Where the stream of a stage is cut does not show (R261): what it does to a stream it does to the first part, and then to
the rest. -/
def Cuts (g : σ → List C32 → σ × List C32) : Prop :=
  ∀ (st : σ) (xs ys : List C32),
    g st (xs ++ ys) = ((g (g st xs).1 ys).1, (g st xs).2 ++ (g (g st xs).1 ys).2)

theorem transduce_cuts (f : σ → C32 → σ × List C32) : Cuts (transduce f) := transduce_append f

/-- A stage that carries a field of the state along the stream (R261), guarded by the configuration. -/
def runStage (fld : StageField σ) (on : CsrFile → Bool) (g : CsrFile → σ → List C32 → σ × List C32)
    (out : CsrFile → C32 → C32) (s : State) : State :=
  if on s.cfg then
    (fld.put s (g s.cfg (fld.get s) s.work.xs).1).withStream ((g s.cfg (fld.get s) s.work.xs).2.map (out s.cfg))
  else s

/-- The same of a stage of the machine. -/
def Splits (run : State → State) : Prop :=
  ∀ (s : State) (xs ys : List C32),
    run (s.withStream (xs ++ ys)) =
      (run ((run (s.withStream xs)).withStream ys)).withStream
        ((run (s.withStream xs)).work.xs ++ (run ((run (s.withStream xs)).withStream ys)).work.xs)

@[simp] theorem withStream_withStream (s : State) (xs ys : List C32) :
    (s.withStream xs).withStream ys = s.withStream ys := rfl
@[simp] theorem withStream_cfg (s : State) (xs : List C32) : (s.withStream xs).cfg = s.cfg := rfl
@[simp] theorem withStream_sync (s : State) (xs : List C32) : (s.withStream xs).sync = s.sync := rfl
@[simp] theorem withStream_perm (s : State) (xs : List C32) : (s.withStream xs).perm = s.perm := rfl
@[simp] theorem withStream_permLock (s : State) (xs : List C32) : (s.withStream xs).permLock = s.permLock := rfl
@[simp] theorem withStream_xs (s : State) (xs : List C32) : (s.withStream xs).work.xs = xs := rfl

theorem runStage_splits (fld : StageField σ) (on : CsrFile → Bool) {g : CsrFile → σ → List C32 → σ × List C32}
    (hg : ∀ c, Cuts (g c)) (out : CsrFile → C32 → C32) : Splits (runStage fld on g out) := by
  intro s xs ys
  by_cases h : on s.cfg = true
  · simp [runStage, h, fld.get_put, fld.put_put, fld.put_cfg, fld.get_withStream, fld.put_withStream, hg s.cfg _ xs ys]
  · simp [runStage, h]

/-- A stage of transducer steps on a stream of one sample. -/
theorem runStage_single {fld : StageField σ} {on : CsrFile → Bool} {f : CsrFile → σ → C32 → σ × List C32}
    {out : CsrFile → C32 → C32} {s : State} {x : C32} (hon : on s.cfg = true) (hx : s.work.xs = [x]) :
    runStage fld on (fun c => transduce (f c)) out s =
      (fld.put s (f s.cfg (fld.get s) x).1).withStream ((f s.cfg (fld.get s) x).2.map (out s.cfg)) := by
  rw [runStage, if_pos hon, hx]
  simp

/-- The stream stays as the step gives it. -/
def asIs (_ : CsrFile) (z : C32) : C32 := z

theorem map_asIs (c : CsrFile) (zs : List C32) : zs.map (asIs c) = zs := List.map_id' zs

/-- On the FM family only the real part stays (R260, R407, R435). -/
def onPath (c : CsrFile) (z : C32) : C32 := if c.cqpsk then z else C32.ofReal z.re

theorem map_onPath (s : State) (zs : List C32) : zs.map (onPath s.cfg) = s.pathStream .binary32 zs := by
  unfold State.Of.pathStream State.Of.cq onPath
  split <;> simp

def fs4Field : StageField Nat :=
  ⟨fun s => s.fs4n, fun s a => { s with fs4n := a }, fun _ _ => rfl, fun _ _ _ => rfl, fun _ _ => rfl, fun _ _ => rfl,
    fun _ _ _ => rfl⟩
def dcbField : StageField C32 :=
  ⟨fun s => s.dc, fun s a => { s with dc := a }, fun _ _ => rfl, fun _ _ _ => rfl, fun _ _ => rfl, fun _ _ => rfl,
    fun _ _ _ => rfl⟩
def agcField : StageField (Agc F32) :=
  ⟨fun s => s.agc, fun s a => { s with agc := a }, fun _ _ => rfl, fun _ _ _ => rfl, fun _ _ => rfl, fun _ _ => rfl,
    fun _ _ _ => rfl⟩
def noField : StageField Unit :=
  ⟨fun _ => (), fun s _ => s, fun _ _ => rfl, fun _ _ _ => rfl, fun _ _ => rfl, fun _ _ => rfl, fun _ _ _ => rfl⟩
def iqbField : StageField (Iqb F32) :=
  ⟨fun s => s.iqb, fun s a => { s with iqb := a }, fun _ _ => rfl, fun _ _ _ => rfl, fun _ _ => rfl, fun _ _ => rfl,
    fun _ _ _ => rfl⟩
def befllField : StageField (BeFll F32) :=
  ⟨fun s => s.be, fun s a => { s with be := a }, fun _ _ => rfl, fun _ _ _ => rfl, fun _ _ => rfl, fun _ _ => rfl,
    fun _ _ _ => rfl⟩
def costasField : StageField (Costas F32 × Ted F32) :=
  ⟨fun s => (s.cos, s.ted), fun s a => { s with cos := a.1, ted := a.2 }, fun _ _ => rfl, fun _ _ _ => rfl,
    fun _ _ => rfl, fun _ _ => rfl, fun _ _ _ => rfl⟩
def tedField : StageField (Ted F32) :=
  ⟨fun s => s.ted, fun s a => { s with ted := a }, fun _ _ => rfl, fun _ _ _ => rfl, fun _ _ => rfl, fun _ _ => rfl,
    fun _ _ _ => rfl⟩
def discField : StageField C32 :=
  ⟨fun s => s.discPrev, fun s a => { s with discPrev := a }, fun _ _ => rfl, fun _ _ _ => rfl, fun _ _ => rfl,
    fun _ _ => rfl, fun _ _ _ => rfl⟩
def deemphField : StageField (OnePole F32) :=
  ⟨fun s => s.de, fun s a => { s with de := a }, fun _ _ => rfl, fun _ _ _ => rfl, fun _ _ => rfl, fun _ _ => rfl,
    fun _ _ _ => rfl⟩
def chlpfField : StageField (ChLpf F32) :=
  ⟨fun s => s.ch, fun s a => { s with ch := a }, fun _ _ => rfl, fun _ _ _ => rfl, fun _ _ => rfl, fun _ _ => rfl,
    fun _ _ _ => rfl⟩
def alpfField : StageField (OnePole F32) :=
  ⟨fun s => s.al, fun s a => { s with al := a }, fun _ _ => rfl, fun _ _ _ => rfl, fun _ _ => rfl, fun _ _ => rfl,
    fun _ _ _ => rfl⟩
def resampField : StageField (Resamp F32) :=
  ⟨fun s => s.rs, fun s a => { s with rs := a }, fun _ _ => rfl, fun _ _ _ => rfl, fun _ _ => rfl, fun _ _ => rfl,
    fun _ _ _ => rfl⟩
def diffField : StageField C32 :=
  ⟨fun s => s.diffPrev, fun s a => { s with diffPrev := a }, fun _ _ => rfl, fun _ _ _ => rfl, fun _ _ => rfl,
    fun _ _ => rfl, fun _ _ _ => rfl⟩

theorem stageFs4_eq :
    stageFs4 .binary32 = runStage fs4Field (fun c => c.stageOn .fs4) (fun _ => transduce (fs4Step .binary32)) asIs := by
  funext s
  rw [runStage, map_asIs]; rfl

theorem stageDcb_eq :
    stageDcb .binary32 =
      runStage dcbField (fun c => c.stageOn .dcb) (fun c => transduce (dcbStep .binary32 (c.field .dcbK 0 4))) asIs := by
  funext s
  rw [runStage, map_asIs]; rfl

theorem stageAgc_eq :
    stageAgc .binary32 =
      runStage agcField (fun c => c.stageOn .agc && !c.cqpsk) (fun c => transduce (agcStep .binary32 c)) asIs := by
  funext s
  rw [runStage, map_asIs]; rfl

theorem transduce_map {α β : Type} (f : α → β) (xs : List α) :
    transduce (fun (u : Unit) x => (u, [f x])) () xs = ((), xs.map f) := by
  induction xs with
  | nil => rfl
  | cons x xs ih => rw [transduce_cons, ih]; rfl

theorem stageLim_eq :
    stageLim .binary32 =
      runStage noField (fun c => c.stageOn .lim && !c.cqpsk)
        (fun c => transduce (fun u z => (u, [limit .binary32 (c.realAs .binary32 .agcTarget) z]))) asIs := by
  funext s
  rw [runStage, map_asIs, transduce_map]; rfl

theorem stageIqb_eq :
    stageIqb .binary32 =
      runStage iqbField (fun c => c.stageOn .iqb)
        (fun c => transduce (iqbStep .binary32 (c.realAs .binary32 .iqbMu) (c.realAs .binary32 .iqbThr))) asIs := by
  funext s
  rw [runStage, map_asIs]; rfl

theorem stageBefll_eq :
    stageBefll .binary32 =
      runStage befllField (fun c => c.stageOn .befll && c.cqpsk) (fun _ => transduce (befllStep .binary32)) asIs := by
  funext s
  rw [runStage, map_asIs]; rfl

theorem stageCostas_eq :
    stageCostas .binary32 =
      runStage costasField (fun c => c.stageOn .costas && c.cqpsk) (fun c => transduce (costasTedStep .binary32 c)) asIs := by
  funext s
  rw [runStage, map_asIs]; rfl

theorem stageTed_eq :
    stageTed .binary32 =
      runStage tedField (fun c => c.stageOn .ted && !(c.cqpsk && c.stageOn .costas))
        (fun c => transduce (tedStep .binary32 (c.tedGain .binary32))) asIs := by
  funext s
  rw [runStage, map_asIs]; rfl

theorem stageDisc_eq :
    stageDisc Params.default =
      runStage discField (fun c => c.stageOn .disc && !c.cqpsk) (fun _ => transduce (discStep Params.default)) asIs := by
  funext s
  rw [runStage, map_asIs]; rfl

theorem stageDeemph_eq :
    stageDeemph .binary32 =
      runStage deemphField (fun c => c.stageOn .deemph && !c.cqpsk)
        (fun _ => transduce (realStep .binary32 (deemphStep .binary32))) asIs := by
  funext s
  rw [runStage, map_asIs]; rfl

theorem stageChlpf_eq :
    stageChlpf .binary32 = runStage chlpfField (fun c => c.stageOn .chlpf) (fun _ => transduce (chlpfStep .binary32)) onPath := by
  funext s
  rw [runStage, map_onPath]; rfl

theorem stageAlpf_eq :
    stageAlpf .binary32 =
      runStage alpfField (fun c => c.stageOn .alpf && !c.cqpsk)
        (fun _ => transduce (realStep .binary32 (onePoleStep .binary32))) asIs := by
  funext s
  rw [runStage, map_asIs]; rfl

theorem stageResamp_eq :
    stageResamp .binary32 =
      runStage resampField (fun c => c.stageOn .resamp && decide (c.ratio.1 ≠ c.ratio.2))
        (fun c => transduce (resampStep .binary32 c.rsTaps c.ratio.1 c.ratio.2)) onPath := by
  funext s
  rw [runStage, map_onPath]; rfl

theorem stageDiff_eq :
    stageDiff .binary32 =
      runStage diffField (fun c => c.stageOn .diff && c.cqpsk) (fun _ => transduce (diffStep .binary32)) asIs := by
  funext s
  rw [runStage, map_asIs]; rfl

def hbField : StageField (List (HbStage F32)) :=
  ⟨fun s => s.hb, fun s a => { s with hb := a }, fun _ _ => rfl, fun _ _ _ => rfl, fun _ _ => rfl, fun _ _ => rfl,
    fun _ _ _ => rfl⟩

theorem stageHb_eq :
    stageHb Params.default =
      runStage hbField (fun c => c.stageOn .hb) (fun c => hbCascade Params.default (c.field .hbStages 0 3)) asIs := by
  funext s
  rw [runStage, map_asIs]; rfl

/-- The cascade is a chain of transducers. -/
theorem hbCascade_cuts (p : Params F32) (n : Nat) : Cuts (hbCascade p n) := by
  induction n with
  | zero => intro hs xs ys; rfl
  | succ n ih =>
    intro hs xs ys
    cases hs with
    | nil => rfl
    | cons h hs => simp [hbCascade, transduce_append, ih _ (transduce (hbStep p) h xs).2]

def eqField : StageField (Equalizer F32) :=
  ⟨fun s => s.eq, fun s a => { s with eq := a }, fun _ _ => rfl, fun _ _ _ => rfl, fun _ _ => rfl, fun _ _ => rfl,
    fun _ _ _ => rfl⟩

/-- The equalizer on a stream: it is armed, and then each symbol runs through it (R361). -/
def eqStream (c : CsrFile) (q : Equalizer F32) (xs : List C32) : Equalizer F32 × List C32 :=
  transduce (eqStep .binary32 c) (eqArm c q) xs

theorem stageEq_eq :
    stageEq .binary32 = runStage eqField (fun c => c.stageOn .eq && c.cqpsk) eqStream asIs := by
  funext s
  rw [runStage, map_asIs]; rfl

theorem eqStep_lmsPrev (F : RealFormat R) (c : CsrFile) (q : Equalizer R) (x : Cplx R) :
    (eqStep F c q x).1.lmsPrev = q.lmsPrev := by
  unfold eqStep eqLearn eqAdapt
  dsimp only
  split_ifs <;> rfl

/-- Once armed, the equalizer arms again only at a new edge of LMS_EN (R361). -/
theorem eqArm_eq_self {c : CsrFile} {q : Equalizer R} (h : q.lmsPrev = c.lmsEn) : eqArm c q = q := by
  unfold eqArm
  rw [h, Bool.and_not_self, if_neg Bool.false_ne_true, ← h]

theorem eqStream_cuts (c : CsrFile) : Cuts (eqStream c) := by
  intro q xs ys
  have harmed : (transduce (eqStep .binary32 c) (eqArm c q) xs).1.lmsPrev = c.lmsEn :=
    transduce_keeps (fun q : Equalizer F32 => q.lmsPrev = c.lmsEn) _ (fun q x hq => (eqStep_lmsPrev ..).trans hq) _ _ rfl
  rw [eqStream, eqStream, eqStream, transduce_append, eqArm_eq_self harmed]

/-! ## The symbol chain -/

/-- A step of the symbol chain that does not see the stream (R458). -/
def StreamBlind (f : State → State) : Prop := ∀ (s : State) (xs : List C32), f (s.withStream xs) = (f s).withStream xs

variable (p : Params F32)

theorem warmStartPath_withStream (F : RealFormat F32) (s : State) (xs : List C32) (n : Nat) :
    warmStartPath F (s.withStream xs) n = (State.withStream (warmStartPath F s n).1 xs, (warmStartPath F s n).2) := by
  by_cases h : s.cq = true
  · have h' : (s.withStream xs).cq = true := h
    rw [warmStartPath, warmStartPath, if_pos h, if_pos h']; rfl
  · have h' : ¬ (s.withStream xs).cq = true := h
    rw [warmStartPath, warmStartPath, if_neg h, if_neg h']; rfl

theorem dmrRos_withStream (s : State) (xs : List C32) :
    dmrRos p (s.withStream xs) = (State.withStream (dmrRos p s).1 xs, (dmrRos p s).2) := by
  by_cases h : s.sh.n < dmrSyncLen
  · have h' : (s.withStream xs).sh.n < dmrSyncLen := h
    rw [dmrRos, dmrRos, if_pos h, if_pos h']
  · have h' : ¬ (s.withStream xs).sh.n < dmrSyncLen := h
    rw [dmrRos, dmrRos, if_neg h, if_neg h']
    dsimp only
    have hw := warmStartPath_withStream p.real
      { s with
        dmr := { s.dmr with best := (bestPattern p s.free s.sh).1, bvalid := true }
        free := (bestPattern p s.free s.sh).2 } xs dmrSyncLen
    simp only [State.withStream] at hw ⊢
    rw [hw]
    rfl

theorem stageWs_blind (F : RealFormat F32) : StreamBlind (stageWs F) := by
  intro s xs
  by_cases h : s.on .ws = true
  · have h' : (s.withStream xs).on .ws = true := h
    rw [stageWs, stageWs, if_pos h, if_pos h', warmStartPath_withStream]; rfl
  · have h' : ¬ (s.withStream xs).on .ws = true := h
    rw [stageWs, stageWs, if_neg h, if_neg h']

theorem stageDmrRos_blind : StreamBlind (stageDmrRos p) := by
  intro s xs
  by_cases h : s.on .dmrRos = true
  · have h' : (s.withStream xs).on .dmrRos = true := h
    rw [stageDmrRos, stageDmrRos, if_pos h, if_pos h', dmrRos_withStream]; rfl
  · have h' : ¬ (s.withStream xs).on .dmrRos = true := h
    rw [stageDmrRos, stageDmrRos, if_neg h, if_neg h']

theorem permStep_blind : StreamBlind (permStep p) := by
  intro s xs
  have hwin (π : Perm) : permDist p (s.withStream xs) π = permDist p s π := rfl
  unfold permStep
  simp only [hwin, withStream_cfg, withStream_sync, withStream_perm, withStream_permLock]
  by_cases hn : s.sync.srn < 24
  · rw [if_pos hn, if_pos hn]
  rw [if_neg hn, if_neg hn]
  by_cases hl : (s.permLock && decide (permDist p s s.perm ≤ s.cfg.field .permThr 0 8)) = true
  · rw [if_pos hl, if_pos hl]
  rw [if_neg hl, if_neg hl]
  split <;> rfl

theorem stagePerm_blind : StreamBlind (stagePerm p) := by
  intro s xs
  by_cases h : s.permOn = true
  · have h' : (s.withStream xs).permOn = true := h
    rw [stagePerm, stagePerm, if_pos h, if_pos h', permStep_blind]
  · have h' : ¬ (s.withStream xs).permOn = true := h
    rw [stagePerm, stagePerm, if_neg h, if_neg h']

theorem detect_withStream (s : State) (xs : List C32) (e : SyncEntry) :
    detect p (s.withStream xs) e = State.withStream (detect p s e) xs := by
  unfold detect
  have hstart : detectStart (s.withStream xs) e = State.withStream (detectStart s e) xs := rfl
  dsimp only
  rw [hstart]
  by_cases h : e.proto = dmrProto ∧ (detectStart s e).on .dmrRos = true
  · rw [if_pos h, if_pos (show e.proto = dmrProto ∧ State.Of.on (State.withStream (detectStart s e) xs) .dmrRos = true from h),
      stageDmrRos_blind]
    rfl
  · rw [if_neg h, if_neg (show ¬ (e.proto = dmrProto ∧ State.Of.on (State.withStream (detectStart s e) xs) .dmrRos = true) from h),
      stageWs_blind]
    rfl

theorem scan_withStream (s : State) (xs : List C32) (d : Dibit) :
    scan p (s.withStream xs) d = State.withStream (scan p s d) xs := by
  unfold scan
  have hmatch (t : State) : entryMatches (t.withStream xs) = entryMatches t := rfl
  have hpush : srPush (s.withStream xs) d = State.withStream (srPush s d) xs := rfl
  dsimp only
  rw [hpush, stagePerm_blind, hmatch]
  split
  · exact detect_withStream p _ xs _
  · rfl

theorem stageScan_blind : StreamBlind (stageScan p) := by
  intro s xs
  by_cases h : s.on .scan = true
  · have h' : (s.withStream xs).on .scan = true := h
    rw [stageScan, stageScan, if_pos h, if_pos h', ← scan_withStream]; rfl
  · have h' : ¬ (s.withStream xs).on .scan = true := h
    rw [stageScan, stageScan, if_neg h, if_neg h']

theorem sliceSymbol_withStream (s : State) (xs : List C32) (x : F32) :
    sliceSymbol p (s.withStream xs) x = State.withStream (sliceSymbol p s x) xs := by
  by_cases h : s.cq = true
  · have h' : (s.withStream xs).cq = true := h
    unfold sliceSymbol
    dsimp only
    rw [if_pos h, if_pos h']; rfl
  · have h' : ¬ (s.withStream xs).cq = true := h
    unfold sliceSymbol
    dsimp only
    rw [if_neg h, if_neg h']; rfl

/-- The symbol chain over the stream, symbol after symbol (R458). -/
def sliceAll (s : State) (zs : List C32) : State := zs.foldl (fun t z => symbolStep p t (slicerInput p t.cfg z)) s

theorem sliceAll_withStream (s : State) (xs zs : List C32) :
    sliceAll p (s.withStream xs) zs = (sliceAll p s zs).withStream xs := by
  unfold sliceAll
  induction zs generalizing s with
  | nil => rfl
  | cons z zs ih =>
    rw [List.foldl_cons, List.foldl_cons, withStream_cfg, symbolStep, symbolStep, sliceSymbol_withStream,
      stageScan_blind]
    exact ih _

theorem sliceAll_cfg (s : State) (zs : List C32) : (sliceAll p s zs).cfg = s.cfg := by
  unfold sliceAll
  induction zs generalizing s with
  | nil => rfl
  | cons z zs ih => rw [List.foldl_cons, ih, (Steps.symbolStep_chained p s _).cfg]

theorem stageSlice_eq (s : State) :
    stageSlice p s = if s.on .slice then (sliceAll p s s.work.xs).withStream [] else s.withStream [] := by
  unfold stageSlice
  split <;> rfl

theorem stageSlice_splits : Splits (stageSlice p) := by
  intro s xs ys
  have hon (t : State) (zs : List C32) : (t.withStream zs).on .slice = t.on .slice := rfl
  by_cases h : s.on .slice = true
  · have hfirst : stageSlice p (s.withStream xs) = (sliceAll p s xs).withStream [] := by
      rw [stageSlice_eq, hon, if_pos h, sliceAll_withStream]; rfl
    have hmid : (sliceAll p s xs).on .slice = true := by rw [State.Of.on, sliceAll_cfg]; exact h
    rw [hfirst, withStream_withStream, stageSlice_eq, hon, if_pos h, stageSlice_eq, hon, if_pos hmid,
      sliceAll_withStream, sliceAll_withStream]
    simp only [withStream_xs, withStream_withStream, List.append_nil]
    rw [sliceAll, List.foldl_append]
    rfl
  · have hoff (t : State) (ht : t.on .slice = s.on .slice) : stageSlice p t = t.withStream [] := by
      rw [stageSlice_eq, if_neg (by rw [ht]; exact h)]
    rw [hoff (s.withStream xs) rfl, hoff (s.withStream (xs ++ ys)) rfl,
      hoff (((s.withStream xs).withStream []).withStream ys) rfl]
    rfl

/-- Settles O32: the transducers split where their stream splits, and the symbol chain does not see the stream. -/
theorem stagesIgnoreBlockBoundaries : Obligations.StagesIgnoreBlockBoundaries := by
  unfold Obligations.StagesIgnoreBlockBoundaries
  have settle {i : Instr} {run : State → State} (hexec : ∀ s, exec i s = .next (run s)) (hrun : Splits run)
      (s : State) (xs ys : List C32) : ∃ t1 t2 : State,
        exec i (s.withStream xs) = .next t1 ∧ exec i (t1.withStream ys) = .next t2 ∧
          exec i (s.withStream (xs ++ ys)) = .next (t2.withStream (t1.work.xs ++ t2.work.xs)) :=
    ⟨_, _, hexec _, hexec _, (hexec _).trans (congrArg _ (hrun s xs ys))⟩
  have plain {σ : Type} (fld : StageField σ) (on : CsrFile → Bool) (f : CsrFile → σ → C32 → σ × List C32)
      (out : CsrFile → C32 → C32) : Splits (runStage fld on (fun c => transduce (f c)) out) :=
    runStage_splits fld on (fun c => transduce_cuts (f c)) out
  intro i hi
  simp only [List.mem_cons, List.not_mem_nil, or_false] at hi
  rcases hi with rfl | rfl | rfl | rfl | rfl | rfl | rfl | rfl | rfl | rfl | rfl | rfl | rfl | rfl | rfl | rfl | rfl
  · exact settle (fun _ => rfl) (by rw [stageFs4_eq]; exact plain _ _ _ _)
  · exact settle (fun _ => rfl) (by rw [stageHb_eq]; exact runStage_splits _ _ (fun c => hbCascade_cuts _ _) _)
  · exact settle (fun _ => rfl) (by rw [stageDcb_eq]; exact plain _ _ _ _)
  · exact settle (fun _ => rfl) (by rw [stageAgc_eq]; exact plain _ _ _ _)
  · exact settle (fun _ => rfl) (by rw [stageLim_eq]; exact plain _ _ _ _)
  · exact settle (fun _ => rfl) (by rw [stageIqb_eq]; exact plain _ _ _ _)
  · exact settle (fun _ => rfl) (by rw [stageBefll_eq]; exact plain _ _ _ _)
  · exact settle (fun _ => rfl) (by rw [stageCostas_eq]; exact plain _ _ _ _)
  · exact settle (fun _ => rfl) (by rw [stageTed_eq]; exact plain _ _ _ _)
  · exact settle (fun _ => rfl) (by rw [stageEq_eq]; exact runStage_splits _ _ eqStream_cuts _)
  · exact settle (fun _ => rfl) (by rw [stageDisc_eq]; exact plain _ _ _ _)
  · exact settle (fun _ => rfl) (by rw [stageDeemph_eq]; exact plain _ _ _ _)
  · exact settle (fun _ => rfl) (by rw [stageChlpf_eq]; exact plain _ _ _ _)
  · exact settle (fun _ => rfl) (by rw [stageAlpf_eq]; exact plain _ _ _ _)
  · exact settle (fun _ => rfl) (by rw [stageResamp_eq]; exact plain _ _ _ _)
  · exact settle (fun _ => rfl) (by rw [stageDiff_eq]; exact plain _ _ _ _)
  · exact settle (fun _ => rfl) (stageSlice_splits _)

end Sys2Proof.Proofs.Stages
end

section
/-! PROOF. The stages on one sample and on a block (R270 to R435): O33 to O45, O47 to O49. -/

namespace Sys2Proof.Proofs.Stages
open Sys2Proof Sys2Proof.Machine

variable {R : Type}

/-! ## Stages whose sample rule is written out -/

/-- An FM-family stage runs (R260). -/
theorem fmStage_on {c : CsrFile} {k : Stage} (hon : c.stageOn k = true) (hcq : c.cqpsk = false) :
    (c.stageOn k && !c.cqpsk) = true := by rw [hon, hcq]; rfl

/-- A CQPSK stage runs (R260). -/
theorem cqStage_on {c : CsrFile} {k : Stage} (hon : c.stageOn k = true) (hcq : c.cqpsk = true) :
    (c.stageOn k && c.cqpsk) = true := by rw [hon, hcq]; rfl

/-- Settles O35, by the step of the DC block. -/
theorem dcBlockSample : Obligations.DcBlockSample := by
  unfold Obligations.DcBlockSample
  intro s x hon hx c re im
  refine congrArg Host.Outcome.next ?_
  rw [stageDcb_eq, runStage_single hon hx, Commands.field_zero]
  rfl

/-- The gain of the AGC, case by case (R277). -/
theorem agcGain_eq (F : RealFormat R) (c : CsrFile) (g r : R) :
    agcGain F c g r =
      if F.le (c.realAs F .agcMin) r = true ∧ F.lt F.zero r = true then
        F.add g (F.mul
          (if F.lt (F.div (c.realAs F .agcTarget) r) g = true then c.realAs F .agcAttack else c.realAs F .agcRelease)
          (F.sub (F.div (c.realAs F .agcTarget) r) g))
      else g := by
  simp only [agcGain, Bool.and_eq_true]
  rfl

/-- Settles O36, by the step of the AGC. -/
theorem agcSample : Obligations.AgcSample := by
  unfold Obligations.AgcSample
  intro s z hon hcq hz p r gt c g
  refine congrArg Host.Outcome.next ?_
  rw [stageAgc_eq, runStage_single (fmStage_on hon hcq) hz]
  have hg : agcGain .binary32 s.cfg s.agc.g r = g := agcGain_eq ..
  rw [← hg]
  rfl

/-- The limiter, case by case (R280). -/
theorem limit_eq (F : RealFormat R) (t : R) (z : Cplx R) :
    limit F t z =
      if F.lt F.zero (F.cabs z) = true ∧
          (F.lt (F.cabs z) (F.mul (half F) t) = true ∨ F.lt (F.mul (F.ofNat 2) t) (F.cabs z) = true) then
        F.scale (F.div t (F.cabs z)) z
      else z := by
  simp only [limit, Bool.and_eq_true, Bool.or_eq_true]

/-- Settles O37: the limiter maps the stream. -/
theorem limiterSamples : Obligations.LimiterSamples := by
  unfold Obligations.LimiterSamples
  intro s hon hcq t
  have hlim : stageLim .binary32 s =
      { s with work := { s.work with xs := s.work.xs.map (limit .binary32 t) } } :=
    if_pos (fmStage_on hon hcq)
  refine ⟨_, congrArg Host.Outcome.next hlim, rfl, List.length_map _, fun m z hz => ?_⟩
  rw [List.getElem?_map, hz, Option.map_some, limit_eq, half]
  rfl

/-- Settles O38, by the step of the IQ balance. -/
theorem iqBalanceSample : Obligations.IqBalanceSample := by
  unfold Obligations.IqBalanceSample
  intro s z hon hz mu c p a y
  refine congrArg Host.Outcome.next ?_
  rw [stageIqb_eq, runStage_single hon hz]
  rfl

/-- Settles O39, by the step of the band-edge FLL. -/
theorem bandEdgeSample : Obligations.BandEdgeSample := by
  unfold Obligations.BandEdgeSample
  intro s x hon hcq hx y ylo yup err freq phase
  refine congrArg Host.Outcome.next ?_
  rw [stageBefll_eq, runStage_single (cqStage_on hon hcq) hx]
  rfl

/-- Settles O42, by the steps of the differential phasor and the discriminator in the format of the parameters. -/
theorem phaseStepSamples : Obligations.PhaseStepSamples := by
  unfold Obligations.PhaseStepSamples
  refine ⟨fun s x hx => ⟨fun hon hcq => ?_, fun hon hcq => ?_⟩,
    fun R p s x hx => ⟨fun hon hcq => ?_, fun hon hcq => ?_⟩⟩
  · refine congrArg Host.Outcome.next ?_
    rw [stageDiff_eq, runStage_single (cqStage_on hon hcq) hx]; rfl
  · refine congrArg Host.Outcome.next ?_
    rw [stageDisc_eq, runStage_single (fmStage_on hon hcq) hx]; rfl
  · refine congrArg Host.Outcome.next ?_
    have hrun : (s.on .diff && s.cq) = true := cqStage_on hon hcq
    rw [stageDiff, if_pos hrun, hx]; rfl
  · refine congrArg Host.Outcome.next ?_
    have hrun : (s.on .disc && !s.cq) = true := fmStage_on hon hcq
    rw [stageDisc, if_pos hrun, hx]; rfl

/-- The deemphasis, with its identity (R401). -/
theorem deemphStep_eq (F : RealFormat R) (d : OnePole R) (x : R) :
    deemphStep F d x =
      (let y := if F.eqv d.a F.one = true then x else F.add d.y (F.mul d.a (F.sub x d.y))
      ({ d with y := y }, y)) := by
  unfold deemphStep
  split <;> rfl

/-- Settles O47, by the steps of the one-pole filters. -/
theorem onePoleSamples : Obligations.OnePoleSamples := by
  unfold Obligations.OnePoleSamples
  refine fun s x hx hcq => ⟨fun hon => ?_, fun hon => ?_⟩
  · intro y
    refine congrArg Host.Outcome.next ?_
    rw [stageDeemph_eq, runStage_single (fmStage_on hon hcq) hx, realStep, deemphStep_eq]
    rfl
  · intro y
    refine congrArg Host.Outcome.next ?_
    rw [stageAlpf_eq, runStage_single (fmStage_on hon hcq) hx]
    rfl

/-- Settles O48, by the step of the channel LPF. -/
theorem channelLpfSample : Obligations.ChannelLpfSample := by
  unfold Obligations.ChannelLpfSample
  intro s x hon hx y
  refine congrArg Host.Outcome.next ?_
  rw [stageChlpf_eq, runStage_single hon hx]
  rfl

/-! ## Stages whose state moves on its own -/

/-- A transducer with one output a sample whose state does not look at the samples. -/
theorem transduce_autonomous {σ α β : Type} (g : σ → σ) (h : σ → α → β) (st : σ) (xs : List α) :
    (transduce (fun st x => (g st, [h st x])) st xs).1 = g^[xs.length] st ∧
      ∀ m, (transduce (fun st x => (g st, [h st x])) st xs).2[m]? = xs[m]?.map (h (g^[m] st)) := by
  induction xs generalizing st with
  | nil => exact ⟨rfl, fun m => rfl⟩
  | cons x xs ih =>
    refine ⟨(ih (g st)).1, fun m => ?_⟩
    cases m with
    | zero => rfl
    | succ m => exact (ih (g st)).2 m

theorem iterate_succ_mod (n m : Nat) (h : n < 4) : (fun n => (n + 1) % 4)^[m] n = (n + m) % 4 := by
  induction m with
  | zero => exact (Nat.mod_eq_of_lt h).symm
  | succ m ih => rw [Function.iterate_succ_apply', ih]; omega

/-- The multiplication by `j^n`, case by case (R270). -/
theorem rotateBy_eq (F : RealFormat R) (n : Nat) (x : Cplx R) :
    rotateBy F n x =
      if n = 0 then x
      else if n = 1 then ⟨F.neg x.im, x.re⟩
      else if n = 2 then ⟨F.neg x.re, F.neg x.im⟩
      else ⟨x.im, F.neg x.re⟩ := by
  match n with
  | 0 => rfl
  | 1 => rfl
  | 2 => rfl
  | n + 3 => rw [if_neg (by omega), if_neg (by omega), if_neg (by omega)]; rfl

/-- Settles O33: after m samples the rotation index is n + m modulo 4. -/
theorem fs4ShiftRotates : Obligations.Fs4ShiftRotates := by
  unfold Obligations.Fs4ShiftRotates
  intro s hon hn
  obtain ⟨hindex, hout⟩ := transduce_autonomous (fun n => (n + 1) % 4) (rotateBy .binary32) s.fs4n s.work.xs
  have hfs4 : stageFs4 .binary32 s =
      { s with
        fs4n := (s.fs4n + s.work.xs.length) % 4
        work := { s.work with xs := (transduce (fs4Step .binary32) s.fs4n s.work.xs).2 } } := by
    rw [stageFs4, if_pos hon, ← iterate_succ_mod _ _ hn, ← hindex]
    rfl
  refine ⟨_, congrArg Host.Outcome.next hfs4, rfl, transduce_length _ (fun _ _ => rfl) _ _, fun m x hx => ?_⟩
  refine (hout m).trans ?_
  rw [hx, Option.map_some, iterate_succ_mod _ _ hn, rotateBy_eq]

end Sys2Proof.Proofs.Stages
end

section
/-! PROOF. Timing recovery, half-band cascade and resampler (R272, R316, R330, R435): O34, O40, O41, O49. -/

namespace Sys2Proof.Proofs.Stages
open Sys2Proof Sys2Proof.Machine

variable {R : Type}

/-! ## Gardner TED and Costas loop -/

/-- The whole part of an age, 0 where it is not finite or negative (R331). -/
theorem floorQuot_one_toNat (a : F32) :
    ((F32.floorQuot a F32.one).getD 0).toNat = if a.isFinite = true then a.units.toNat / 2 ^ 149 else 0 := by
  have hone : F32.one.units = 2 ^ 149 := by decide
  have hfinite : (F32.one.isFinite && F32.one.mag != 0) = true := by decide
  rw [F32.floorQuot, Bool.and_assoc, hfinite, Bool.and_true, hone]
  by_cases h : a.isFinite = true
  · rw [if_pos h, if_pos h, Option.getD_some, Int.fdiv_eq_ediv_of_nonneg _ (by decide)]
    omega
  · rw [if_neg h, if_neg h]; rfl

theorem tedInterp_eq (h : List C32) (a : F32) :
    tedInterp .binary32 h a =
      (let i := if a.isFinite = true then a.units.toNat / 2 ^ 149 else 0
      let f := F32.sub a (F32.ofNat i)
      C32.add (C32.scale (F32.sub F32.one f) (h.getD i C32.zero)) (C32.scale f (h.getD (i + 1) C32.zero))) := by
  have hi : ((RealFormat.binary32.floorQuot a RealFormat.binary32.one).getD 0).toNat = _ := floorQuot_one_toNat a
  simp only [tedInterp, hi, RealFormat.binary32_czero]

/-- A sample at which the TED strobes (R330). -/
theorem tedStep_strobe {F : RealFormat R} {g : R} {d : Ted R} {x : Cplx R} (h : F.le (F.sub d.t F.one) F.zero = true) :
    tedStep F g d x = tedStrobe F g { d with h := push d.h x, t := F.sub d.t F.one } := if_pos h

/-- A sample at which the TED waits (R330). -/
theorem tedStep_wait {F : RealFormat R} {g : R} {d : Ted R} {x : Cplx R} (h : ¬ F.le (F.sub d.t F.one) F.zero = true) :
    tedStep F g d x = ({ d with h := push d.h x, t := F.sub d.t F.one }, []) := if_neg h

/-- Settles O40, by the step of the TED. -/
theorem tedSample : Obligations.TedSample := by
  unfold Obligations.TedSample
  intro s x hon halone hx h t a interp yk ym e g
  have hrun : (s.cfg.stageOn .ted && !(s.cfg.cqpsk && s.cfg.stageOn .costas)) = true := by
    rw [show s.cfg.stageOn .ted = true from hon]
    rcases halone with h | h
    · rw [h]; rfl
    · rw [show s.cfg.stageOn .costas = false from h, Bool.and_false]; rfl
  have hinterp (age : F32) : tedInterp .binary32 h age = interp age := tedInterp_eq h age
  refine congrArg Host.Outcome.next ?_
  rw [stageTed_eq, runStage_single hrun hx]
  by_cases hstrobe : F32.le t F32.zero = true
  · rw [if_pos hstrobe, tedStep_strobe (show _ = true from hstrobe)]
    simp only [yk, ym, e, ← hinterp]
    rfl
  · rw [if_neg hstrobe, tedStep_wait (show ¬ _ = true from hstrobe)]
    rfl

/-- The TED on a sample emits a symbol or none (R330). -/
theorem tedStep_out (F : RealFormat R) (g : R) (d : Ted R) (x : Cplx R) :
    (tedStep F g d x).2 = [] ∨ ∃ yk, (tedStep F g d x).2 = [yk] := by
  unfold tedStep
  dsimp only
  split
  · exact .inr ⟨_, rfl⟩
  · exact .inl rfl

/-- The Costas stage on a sample: its TED, and the loop on the symbol it emits (R316). -/
theorem stageCostas_single {s : State} {x : C32} (hon : s.on .costas = true) (hcq : s.cfg.cqpsk = true)
    (hx : s.work.xs = [x]) :
    stageCostas .binary32 s =
      (let d := tedStep .binary32 (s.cfg.tedGain .binary32) s.ted x
      let c := transduce
        (fun c yk =>
          let r := costasStep .binary32 (s.cfg.realAs .binary32 .costasAlpha) (s.cfg.realAs .binary32 .costasBeta)
            (s.cfg.realAs .binary32 .costasMaxf) c yk
          (r.1, [r.2])) s.cos d.2
      { s with ted := d.1, cos := c.1, work := { s.work with xs := c.2 } }) := by
  rw [stageCostas_eq, runStage_single (cqStage_on hon hcq) hx, map_asIs]
  rfl

/-- The phase detector, case by case (R315). -/
theorem costasPd_eq (F : RealFormat R) (z : Cplx R) :
    costasPd F z =
      if F.isNan z.re = true ∨ F.isNan z.im = true then F.nan
      else if F.lt (F.abs z.im) (F.abs z.re) = true then
        (if F.lt F.zero z.re = true then F.neg z.im else z.im)
      else
        (if F.lt F.zero z.im = true then z.re else F.neg z.re) := by
  simp only [costasPd, Bool.or_eq_true]

/-- Where the loop starts: from 0 at the first symbol since a reset (R318). -/
theorem costasStep_start (F : RealFormat R) (alpha beta fm : R) (c : Costas R) (yk : Cplx R) :
    costasStep F alpha beta fm c yk =
      (let phase := if c.init = true then c.phase else F.zero
      let freq := if c.init = true then c.freq else F.zero
      let sym := F.cmul yk (F.expj phase)
      let e := costasPd F sym
      let freq' := F.clamp (F.add freq (F.mul beta e)) (F.neg fm) fm
      (⟨F.wrap (F.add (F.add phase freq') (F.mul alpha e)), freq', e, true⟩, sym)) := by
  unfold costasStep
  split <;> rfl

/-- Settles O41: the TED alone takes the same step, and the loop runs on what it emits. -/
theorem costasSample : Obligations.CostasSample := by
  unfold Obligations.CostasSample
  intro s x hon hcq hx
  let s' : State := { s with cfg := s.cfg.set .stageEn 0x00000200#32 }
  have hrun : (s'.cfg.stageOn .ted && !(s'.cfg.cqpsk && s'.cfg.stageOn .costas)) = true := by
    have hcos : s'.cfg.stageOn .costas = false := by
      rw [CsrFile.stageOn, CsrFile.get_set]; decide
    have hted : s'.cfg.stageOn .ted = true := by
      rw [CsrFile.stageOn, CsrFile.get_set]; decide
    rw [hcos, hted, Bool.and_false]; rfl
  have hgain : s'.cfg.tedGain .binary32 = s.cfg.tedGain .binary32 := by
    rw [CsrFile.tedGain, CsrFile.get_set_ne _ _ _ _ (by decide)]; rfl
  have hted : stageTed .binary32 s' =
      { s' with
        ted := (tedStep .binary32 (s.cfg.tedGain .binary32) s.ted x).1
        work := { s.work with xs := (tedStep .binary32 (s.cfg.tedGain .binary32) s.ted x).2 } } := by
    rw [stageTed_eq, runStage_single (s := s') hrun hx, map_asIs, hgain]
    rfl
  refine ⟨_, congrArg Host.Outcome.next hted, fun hnone => ?_, fun yk hyk => ?_, tedStep_out ..⟩
  · refine congrArg Host.Outcome.next ?_
    rw [stageCostas_single hon hcq hx]
    dsimp only
    rw [show (tedStep .binary32 (s.cfg.tedGain .binary32) s.ted x).2 = [] from hnone]
    rfl
  · intro phase freq sym e freq'
    refine congrArg Host.Outcome.next ?_
    rw [stageCostas_single hon hcq hx]
    dsimp only
    rw [show (tedStep .binary32 (s.cfg.tedGain .binary32) s.ted x).2 = [yk] from hyk]
    have he : costasPd .binary32 sym = e := costasPd_eq ..
    simp only [transduce_cons, transduce_nil, costasStep_start]
    simp only [freq', ← he]
    rfl

/-! ## Half-band cascade -/

theorem hbStages_field (c : CsrFile) : c.field .hbStages 0 3 = (c.get .hbStages).toNat % 8 := Commands.field_zero ..

/-- A cascade of one stage on one sample (R272). -/
theorem stageHb_one (p : Params R) {s : State.Of R} {h : HbStage R} {hs : List (HbStage R)} {x : Cplx R}
    (hon : s.on .hb = true) (hn : (s.cfg.get .hbStages).toNat % 8 = 1) (hhb : s.hb = h :: hs) (hx : s.work.xs = [x]) :
    stageHb p s =
      { s with
        hb := ⟨(x :: h.h).take h.h.length, !h.ph⟩ :: hs
        work :=
          { s.work with
            xs := if h.ph = true then [p.real.csum (List.zipWith p.real.scale p.hbTaps (x :: h.h))] else [] } } := by
  rw [stageHb, if_pos hon, hbStages_field, hn, hhb, hx]
  simp only [hbCascade, transduce_cons, transduce_nil, hbStep, List.append_nil]
  rfl

/-- Settles O34: the cascade unrolls a stage at a time. -/
theorem halfBandSample : Obligations.HalfBandSample := by
  unfold Obligations.HalfBandSample
  refine ⟨fun s hn => ?_, fun R p s h hs x hon hn hhb hx => congrArg Host.Outcome.next (stageHb_one p hon hn hhb hx),
    fun s h hs x hon hn hhb hx => ?_, fun s h hs n hon hn hhb => ?_⟩
  · refine congrArg Host.Outcome.next ?_
    unfold stageHb
    rw [hbStages_field, hn]
    split <;> rfl
  · have htaps : Params.default.hbTaps =
        [F32.ofRat (-1) 32, F32.ofRat 0 32, F32.ofRat 9 32, F32.ofRat 16 32, F32.ofRat 9 32, F32.ofRat 0 32,
          F32.ofRat (-1) 32] := rfl
    rw [← htaps]
    exact congrArg Host.Outcome.next (stageHb_one Params.default hon hn hhb hx)
  · have hlt : n < 8 := by omega
    have hon' (v : Word) : (s.cfg.set .hbStages v).stageOn .hb = true := by
      rw [CsrFile.stageOn, CsrFile.get_set_ne _ _ _ _ (by decide)]; exact hon
    have hfirst : (s.cfg.set .hbStages 1#32).field .hbStages 0 3 = 1 := by
      rw [hbStages_field, CsrFile.get_set]; rfl
    have hrest : (s.cfg.set .hbStages (BitVec.ofNat 32 n)).field .hbStages 0 3 = n := by
      rw [hbStages_field, CsrFile.get_set, BitVec.toNat_ofNat]; omega
    let a := transduce (hbStep Params.default) h s.work.xs
    let b := hbCascade Params.default n hs a.2
    have ha : stageHb Params.default { s with cfg := s.cfg.set .hbStages 1#32, hb := [h] } =
        { s with cfg := s.cfg.set .hbStages 1#32, hb := [a.1], work := { s.work with xs := a.2 } } := by
      have hon1 : State.Of.on { s with cfg := s.cfg.set .hbStages 1#32, hb := [h] } .hb = true := hon' _
      rw [stageHb, if_pos hon1, hfirst]
      rfl
    have hb : stageHb Params.default
          { s with
            cfg := s.cfg.set .hbStages (BitVec.ofNat 32 n), hb := hs, work := { s.work with xs := a.2 } } =
        { s with
          cfg := s.cfg.set .hbStages (BitVec.ofNat 32 n), hb := b.1, work := { s.work with xs := b.2 } } := by
      have hon2 : State.Of.on { s with
          cfg := s.cfg.set .hbStages (BitVec.ofNat 32 n), hb := hs, work := { s.work with xs := a.2 } } .hb = true :=
        hon' _
      rw [stageHb, if_pos hon2, hrest]
    refine ⟨_, _, congrArg Host.Outcome.next ha, congrArg Host.Outcome.next hb, rfl, congrArg Host.Outcome.next ?_⟩
    rw [stageHb, if_pos hon, hbStages_field, hn, hhb]
    rfl

/-! ## Resampler -/

/-- The outputs of one input: those of the phases `acc`, `acc + M`, … below L (R435). -/
theorem resampEmit_eq (F : RealFormat R) {k l m : Nat} (hm : 0 < m) (fuel : Nat) (r : Resamp R) (hf : l ≤ r.acc + fuel) :
    resampEmit F fuel k l m r =
      ({ r with acc := r.acc + (l - r.acc + m - 1) / m * m },
        (List.range ((l - r.acc + m - 1) / m)).map (fun j => resampOut F k r (r.acc + j * m))) := by
  have hnone (h : ¬ r.acc < l) : (l - r.acc + m - 1) / m = 0 := Nat.div_eq_of_lt (by omega)
  induction fuel generalizing r with
  | zero => rw [hnone (by omega)]; simp [resampEmit]
  | succ fuel ih =>
    rw [resampEmit]
    by_cases h : r.acc < l
    · have hcount : (l - r.acc + m - 1) / m = (l - (r.acc + m) + m - 1) / m + 1 := by
        rcases Nat.lt_or_ge l (r.acc + m) with hlt | hge
        · rw [Nat.div_eq_of_lt (show l - (r.acc + m) + m - 1 < m by omega)]
          exact Nat.div_eq_of_lt_le (by omega) (by omega)
        · rw [← Nat.add_div_right _ hm]
          congr 1
          omega
      rw [if_pos h, ih { r with acc := r.acc + m } (by dsimp only; omega)
        (fun h' => Nat.div_eq_of_lt (by dsimp only at h' ⊢; omega)), hcount]
      dsimp only
      refine Prod.ext ?_ ?_
      · dsimp only
        rw [Nat.succ_mul, Nat.add_assoc, Nat.add_comm m]
      · dsimp only
        rw [List.range_succ_eq_map, List.map_cons, List.map_map, Nat.zero_mul, Nat.add_zero]
        refine congrArg _ (List.map_congr_left fun j _ => ?_)
        rw [Function.comp_apply, Nat.succ_mul, Nat.add_assoc, Nat.add_comm m]
        rfl
    · rw [if_neg h, hnone h]; simp

/-- Settles O49, by the count of the outputs of one input. -/
theorem resamplerSample : Obligations.ResamplerSample := by
  unfold Obligations.ResamplerSample
  intro s x hon hne hm hx l m k h c
  have hrun : (s.cfg.stageOn .resamp && decide (s.cfg.ratio.1 ≠ s.cfg.ratio.2)) = true := by
    rw [show s.cfg.stageOn .resamp = true from hon, decide_eq_true hne]; rfl
  have hk : s.cfg.rsTaps = k := Commands.field_zero ..
  refine congrArg Host.Outcome.next ?_
  rw [stageResamp_eq, runStage_single hrun hx, resampStep, resampEmit_eq .binary32 hm _ _ (Nat.le_add_left ..), hk,
    List.map_map]
  rfl

end Sys2Proof.Proofs.Stages
end

section
/-! PROOF. The equalizer and the legacy FLL (R361 to R364, R390): O43, O44, O45. -/

namespace Sys2Proof.Proofs.Stages
open Sys2Proof Sys2Proof.Machine

variable {R : Type}

/-! ## Equalizer -/

/-- The equalizer on a stream (R361). -/
theorem stageEq_run {F : RealFormat R} {s : State.Of R} (hon : s.on .eq = true) (hcq : s.cfg.cqpsk = true) :
    stageEq F s =
      { s with
        eq := (transduce (eqStep F s.cfg) (eqArm s.cfg s.eq) s.work.xs).1
        work := { s.work with xs := (transduce (eqStep F s.cfg) (eqArm s.cfg s.eq) s.work.xs).2 } } :=
  if_pos (cqStage_on hon hcq)

/-- With LMS_EN 0 a symbol moves the histories and the gate alone (R364). -/
theorem eqStep_of_lms_off {F : RealFormat R} {c : CsrFile} (h : c.lmsEn = false) (q : Equalizer R) (x : Cplx R) :
    (eqStep F c q x).1 =
      { q with
        x := (eqStep F c q x).1.x, d := (eqStep F c q x).1.d, imc := (eqStep F c q x).1.imc
        imp := (eqStep F c q x).1.imp, wl := (eqStep F c q x).1.wl } := by
  unfold eqStep eqLearn
  simp only [h, if_neg Bool.false_ne_true]
  rfl

/-- Settles O43: no symbol moves a tap or a counter. -/
theorem equalizerWithoutLmsKeepsTaps : Obligations.EqualizerWithoutLmsKeepsTaps := by
  unfold Obligations.EqualizerWithoutLmsKeepsTaps
  intro s hon hcq hlms
  refine ⟨_, congrArg Host.Outcome.next (stageEq_run hon hcq), ?_, transduce_length _ (fun _ _ => rfl) _ _⟩
  have harm : eqArm s.cfg s.eq = { s.eq with lmsPrev := false } := by
    unfold eqArm; rw [hlms]; rfl
  refine transduce_keeps
    (fun q : Equalizer F32 =>
      q = { s.eq with x := q.x, d := q.d, imc := q.imc, imp := q.imp, wl := q.wl, lmsPrev := false }) _ ?_ _ _ ?_
  · intro q x hq
    rw [eqStep_of_lms_off hlms]
    rw [hq]
  · rw [harm]

/-- A field of one bit as that bit. -/
theorem field_bit (f : CsrFile) (r : Rw) (i : Nat) : (f.field r i 1 == 1) = (f.get r).getLsbD i := by
  rw [CsrFile.field, ← BitVec.testBit_toNat, Nat.testBit_eq_decide_div_mod_eq]
  rfl

theorem lmsEn_eq (c : CsrFile) : c.lmsEn = (c.get .eqCfg).getLsbD 13 := field_bit ..

theorem wlEn_eq (c : CsrFile) : c.wlEn = (c.get .eqCfg).getLsbD 12 := field_bit ..

theorem ffeLen_eq (c : CsrFile) : c.ffeLen = (c.get .eqCfg).toNat % 32 := Commands.field_zero ..

/-- The step size, written out (R96). -/
theorem eqMu_eq (c : CsrFile) : c.eqMu .binary32 = F32.ofRat ((c.get .eqMuQ15).toNat % 65536 : Nat) 32768 := by
  rw [CsrFile.eqMu, Commands.field_zero]; rfl

/-- The gate threshold, written out (R99). -/
theorem wlGate_eq (c : CsrFile) : c.wlGate .binary32 = F32.ofRat ((c.get .eqWlGateQ15).toNat % 65536 : Nat) 32768 := by
  rw [CsrFile.wlGate, Commands.field_zero]; rfl

/-- The counters and taps after a symbol, field by field (R364). -/
theorem eqLearn_eq (F : RealFormat R) (c : CsrFile) (q : Equalizer R) (y a : Cplx R) :
    eqLearn F c q y a =
      (let e := eqError F q.cma y a
      let due := c.field .eqStride 0 16 ≤ q.stride + 1
      let t := eqAdapt F c q e
      { q with
        w := if c.lmsEn = true ∧ due then t.w else q.w
        v := if c.lmsEn = true ∧ due then t.v else q.v
        b := if c.lmsEn = true ∧ due then t.b else q.b
        cma := if c.lmsEn = true then q.cma - 1 else q.cma
        stride := if c.lmsEn = true then (if due then 0 else q.stride + 1) else q.stride }) := by
  unfold eqLearn
  by_cases hl : c.lmsEn = true
  · by_cases hd : c.field .eqStride 0 16 ≤ q.stride + 1
    · simp only [hl, hd, and_self, if_true]
      rfl
    · simp only [hl, hd, and_false, if_true, if_false]
  · simp only [hl]
    rfl

/-- One symbol through the equalizer, in every configuration (R361 to R364). -/
theorem stageEq_single {s : State} {x : C32} (hon : s.on .eq = true) (hcq : s.cfg.cqpsk = true) (hx : s.work.xs = [x]) :
    stageEq .binary32 s =
      { s with
        eq := (eqStep .binary32 s.cfg (eqArm s.cfg s.eq) x).1
        work := { s.work with xs := (eqStep .binary32 s.cfg (eqArm s.cfg s.eq) x).2 } } := by
  rw [stageEq_run hon hcq, hx]
  rfl

/-- Arming: a rising edge of LMS_EN loads the warmup (R361). -/
theorem eqArm_eq (c : CsrFile) (q : Equalizer R) :
    eqArm c q =
      { q with
        cma := if c.lmsEn = true ∧ q.lmsPrev = false then c.field .eqCmaWarmup 0 16 else q.cma
        lmsPrev := c.lmsEn } := by
  simp only [eqArm, Bool.and_eq_true, Bool.not_eq_true']

/-- Settles O44: the general formula field by field; one tap is a case of it. -/
theorem equalizerOneTapLms : Obligations.EqualizerOneTapLms := by
  unfold Obligations.EqualizerOneTapLms
  refine (fun general => ⟨?_, general⟩) ?_
  · intro s x hon hcq hx c l n wlEn lmsEn leak mu gate cma imc imp improp wl hist ffe branch y a e due update
    refine congrArg Host.Outcome.next ?_
    have hl : s.cfg.ffeLen = l := ffeLen_eq _
    have hn : s.cfg.dfeLen = n := rfl
    have hlms : s.cfg.lmsEn = lmsEn := lmsEn_eq _
    have hgate : eqGate .binary32 s.cfg (eqArm s.cfg s.eq) x =
        { s.eq with cma := cma, imc := imc, imp := imp, wl := wl, lmsPrev := lmsEn } := by
      rw [eqArm_eq, hlms, eqGate, wlEn_eq, wlGate_eq, Commands.field_zero]
      rfl
    have hy : eqOutput .binary32 s.cfg
        { s.eq with x := hist, cma := cma, imc := imc, imp := imp, wl := wl, lmsPrev := lmsEn } = y := by
      rw [eqOutput, hl, hn]
      rfl
    rw [stageEq_single hon hcq hx, eqStep, hgate]
    dsimp only
    rw [show push s.eq.x x = hist from rfl, hy, eqLearn_eq, hlms, Commands.field_zero]
    simp only [eqAdapt, updateTaps, hl, hn, eqMu_eq]
    rfl
  · intro s x w v ws vs hon hcq hlms hwl hffe hdfe hprev hcma hw hv hlen hx hdue y a
    have hlms' : (s.cfg.get .eqCfg).getLsbD 13 = true := (lmsEn_eq _).symm.trans hlms
    have hwl' : (s.cfg.get .eqCfg).getLsbD 12 = false := (wlEn_eq _).symm.trans hwl
    have hffe' : (s.cfg.get .eqCfg).toNat % 32 = 1 := (ffeLen_eq _).symm.trans hffe
    have hdfe' : (s.cfg.get .eqCfg).toNat / 2 ^ 8 % 8 = 0 := hdfe
    have hhist : (x :: s.eq.x).take 31 = x :: s.eq.x.take 30 := rfl
    refine ⟨_, general s x hon hcq hx, ?_⟩
    simp only [hlms', hwl', hffe', hdfe', hprev, hcma, hw, hv, hlen, hdue, hhist, eqMu_eq, Bool.false_and, and_self,
      if_true, if_false, true_and, and_true, List.take_succ_cons, List.take_zero, List.zipWith_cons_cons,
      List.zipWith_nil_left, List.drop_succ_cons, List.drop_zero, List.nil_append, List.cons_append, ite_self,
      Bool.true_eq_false, and_false, Nat.lt_irrefl]
    exact ⟨rfl, rfl, rfl, rfl⟩

end Sys2Proof.Proofs.Stages
end

section
/-! PROOF. The legacy FLL on a block (R390): O45. -/

namespace Sys2Proof.Proofs.Stages
open Sys2Proof Sys2Proof.Machine

variable {R : Type}

/-! ## Clamps -/

/-- Nothing that a clamp gives is above its upper bound (R15). -/
theorem not_lt_clamp {v lo hi : F32} (h : F32.lt hi lo = false) : F32.lt hi (RealFormat.binary32.clamp v lo hi) = false := by
  have hself : F32.lt hi hi = false := by simp [F32.lt]
  unfold RealFormat.clamp
  split
  · exact h
  · split
    · exact hself
    · exact Bool.not_eq_true _ ▸ ‹_›

/-- Nothing that a clamp gives is below its lower bound (R15). -/
theorem not_clamp_lt {v lo hi : F32} (h : F32.lt hi lo = false) : F32.lt (RealFormat.binary32.clamp v lo hi) lo = false := by
  have hself : F32.lt lo lo = false := by simp [F32.lt]
  unfold RealFormat.clamp
  split
  · exact hself
  · split
    · exact h
    · exact Bool.not_eq_true _ ▸ ‹¬ RealFormat.binary32.lt v lo = true›

/-! ## Legacy FLL -/

/-- The update at the end of a block that is not empty (R390). -/
theorem lfllUpdate_eq (F : RealFormat R) (c : CsrFile) (l : Lfll R) {ys : List (Cplx R)} {last : Cplx R}
    (h : ys.getLast? = some last) :
    lfllUpdate F c l ys =
      (let u := F.mul (F.ofNat 2) (lfllResidual F (F.ofNat (c.field .lfllDeadbandQ14 0 16)) (lfllAcc F l.prev ys))
      let leaked := F.sub l.integ (F.mul l.integ (F.ofRat 1 4096))
      let integ := F.clamp (F.add leaked (F.mul (c.realAs F .lfllKi) u)) (F.neg (lfllClamp F)) (lfllClamp F)
      let d := F.add (F.mul (c.realAs F .lfllKp) u) integ
      let slew := F.ofNat (c.field .lfllSlewQ15 0 16)
      let d := if F.lt F.zero slew then F.clamp d (F.neg slew) slew else d
      { l with integ := integ, freq := F.clamp (F.add l.freq d) (F.neg (lfllClamp F)) (lfllClamp F), prev := last }) := by
  rw [lfllUpdate, h]

/-- A datum with no sign and a magnitude other than 0 is above 0. -/
theorem zero_lt_of_isExact {x : F32} {m : Nat} (h : Commands.IsExact x false m) (hm : m ≠ 0) :
    F32.lt F32.zero x = true := by
  have hmag := h.mag
  have hkey : x.key = (x.bits.extractLsb' 0 31).toNat := by
    rw [F32.key, h.isNeg]; rfl
  have hpos : (x.bits.extractLsb' 0 31).toNat ≠ 0 := by
    intro h0
    rw [BitVec.extractLsb'_toNat, Nat.shiftRight_zero] at h0
    have hexpo : x.expo = 0 := by rw [F32.expo, BitVec.extractLsb'_toNat, Nat.shiftRight_eq_div_pow]; omega
    have hfrac : x.frac = 0 := by rw [F32.frac, BitVec.extractLsb'_toNat, Nat.shiftRight_zero]; omega
    rw [F32.mag, if_pos hexpo, hfrac] at hmag
    exact hm hmag.symm
  have hzero : F32.zero.isNan = false ∧ F32.zero.key = 0 := by decide
  rw [F32.lt, h.isNan, hzero.1, hkey, hzero.2]
  simp only [Bool.not_false, Bool.true_and, decide_eq_true_eq]
  omega

/-- A natural number as a REAL is above 0 where it is not 0. -/
theorem zero_lt_ofNat {n : Nat} (hn : n < 2 ^ 16) : F32.lt F32.zero (F32.ofNat n) = decide (n ≠ 0) := by
  by_cases h0 : n = 0
  · rw [h0]; decide
  · have h := Commands.isExact_rnd false (m := n) (k := 0) (e := 149) (by omega) (by decide) (by decide) (by omega)
    have hof : F32.ofNat n = F32.rnd false (n * 2 ^ (0 + 149)) 0 false := by rw [F32.ofNat, Nat.shiftLeft_eq, Nat.zero_add]
    rw [hof, zero_lt_of_isExact h (Nat.mul_ne_zero h0 (Nat.two_pow_pos _).ne'), decide_eq_true h0]

/-- The autocorrelation as a sum over the indices (R390). -/
theorem lfllAcc_eq (prev : C32) {ys : List C32} (h : ys ≠ []) :
    lfllAcc .binary32 prev ys =
      C32.add (C32.mul (ys.getD 0 C32.zero) (C32.conj prev))
        (C32.sum ((List.range (ys.length - 1)).map (fun m =>
          C32.mul (ys.getD (m + 1) C32.zero) (C32.conj (ys.getD m C32.zero))))) := by
  cases ys with
  | nil => exact absurd rfl h
  | cons y ys =>
    rw [lfllAcc]
    refine congrArg (fun l => C32.add (C32.mul y (C32.conj prev)) (C32.sum l)) (List.ext_getElem (by simp) ?_)
    intro m hm hm'
    have hlt : m < ys.length := by simpa using hm'
    simp [List.getElem?_eq_getElem hlt, List.getElem?_eq_getElem (show m < (y :: ys).length from Nat.lt_succ_of_lt hlt)]

/-- Settles O45: the phase moves on its own, the loop once. -/
theorem legacyFllClamped : Obligations.LegacyFllClamped := by
  unfold Obligations.LegacyFllClamped
  intro s hon hcq hne
  have hrun : (s.on .lfll && !s.cq) = true := fmStage_on hon hcq
  obtain ⟨hphase, hout⟩ := transduce_autonomous
    (fun p => F32.wrap (F32.add p (F32.div (F32.mul s.lf.freq F32.pi) (F32.ofNat 32768))))
    (fun p z => C32.mul z (RealFormat.binary32.expj (F32.neg p))) s.lf.phase s.work.xs
  obtain ⟨ys, hys⟩ : ∃ ys, (transduce (lfllNco .binary32 s.lf.freq) s.lf.phase s.work.xs).2 = ys := ⟨_, rfl⟩
  have hlen : ys.length = s.work.xs.length := by
    rw [← hys]; exact transduce_length _ (fun _ _ => rfl) _ _
  have hne' : ys ≠ [] := by
    intro h
    rw [h] at hlen
    exact hne (List.length_eq_zero_iff.mp hlen.symm)
  have hlast : ys.getLast? = some (ys.getD (s.work.xs.length - 1) C32.zero) := by
    have hpos := List.length_pos_iff.mpr hne'
    rw [List.getLast?_eq_getElem?, hlen, List.getD_eq_getElem?_getD, List.getElem?_eq_getElem (by omega)]
    rfl
  have hstage : stageLfll .binary32 s =
      { s with
        lf := lfllUpdate .binary32 s.cfg
          { s.lf with phase := (transduce (lfllNco .binary32 s.lf.freq) s.lf.phase s.work.xs).1 } ys
        work := { s.work with xs := ys } } := by
    rw [← hys]
    exact if_pos hrun
  have hslew (d slew : F32) (n : Nat) (hn : n < 2 ^ 16) :
      (if F32.lt F32.zero (F32.ofNat n) = true then F32.clamp d (F32.neg slew) slew else d) =
        if n = 0 then d else F32.clamp d (F32.neg slew) slew := by
    rw [zero_lt_ofNat hn]
    by_cases h : n = 0 <;> simp [h]
  rw [lfllUpdate_eq _ _ _ hlast, lfllAcc_eq _ hne', hlen,
    show (transduce (lfllNco .binary32 s.lf.freq) s.lf.phase s.work.xs).1 = _ from hphase] at hstage
  simp only [Commands.field_zero, hslew _ _ _ (Nat.mod_lt _ (Nat.two_pow_pos 16)), lfllResidual] at hstage
  have htop : F32.lt (F32.ofNat 4096) (F32.neg (F32.ofNat 4096)) = false := by decide
  have hneg : F32.neg (F32.ofNat 4096) = F32.ofInt (-4096) := by decide
  refine ⟨_, congrArg Host.Outcome.next hstage, hlen, hlast, not_lt_clamp htop, ?_, not_lt_clamp htop, ?_, ?_, ?_⟩
  · rw [← hneg]; exact not_clamp_lt htop
  · rw [← hneg]; exact not_clamp_lt htop
  · intro m z hz
    show ys[m]? = _
    rw [← hys]
    refine (hout m).trans ?_
    rw [hz]
    rfl
  · rfl

end Sys2Proof.Proofs.Stages
end

section
/-! PROOF. The machine invariant (R45 to R65, R71, R143, R193, R503) part by part: what each operation keeps of it. -/

namespace Sys2Proof.Proofs.Invariant
open Sys2Proof Sys2Proof.Machine

/-! ## Control registers -/

/-- A field that a mask covers whole is not changed by it. -/
theorem field_and {d m : Word} {lo len : Nat} (h : m.extractLsb' lo len = BitVec.allOnes len) :
    (d &&& m).toNat / 2 ^ lo % 2 ^ len = d.toNat / 2 ^ lo % 2 ^ len := by
  rw [← Csrs.field_toNat, ← Csrs.field_toNat, BitVec.extractLsb'_and, h, BitVec.and_allOnes]

/-- The same of a field at bit 0. -/
theorem low_and {d m : Word} (len : Nat) (h : m.extractLsb' 0 len = BitVec.allOnes len) :
    (d &&& m).toNat % 2 ^ len = d.toNat % 2 ^ len := by
  simpa using field_and (d := d) h

/-- The reserved bits of a word do not decide whether it is legal (R71). -/
theorem legal_and_mask (r : Rw) (d : Word) : r.legal (d &&& r.mask) = r.legal d := by
  have hfull : d &&& 0xFFFFFFFF#32 = d := BitVec.and_allOnes
  cases r
  case mode => rw [Rw.legal, Rw.legal, show 8 = 2 ^ 3 from rfl, low_and 3 (by decide)]
  case blockLen => rw [Rw.legal, Rw.legal, low_and 19 (by decide)]
  case hbStages => rw [Rw.legal, Rw.legal, show 8 = 2 ^ 3 from rfl, low_and 3 (by decide)]
  case dcbK => rw [Rw.legal, Rw.legal, show 16 = 2 ^ 4 from rfl, low_and 4 (by decide)]
  case tedSps => rw [Rw.legal, Rw.legal, show 256 = 2 ^ 8 from rfl, low_and 8 (by decide)]
  case eqCfg =>
    have hlow : (d &&& Rw.eqCfg.mask).toNat % 32 = d.toNat % 32 := low_and 5 (by decide)
    have hdfe : (d &&& Rw.eqCfg.mask).toNat / 2 ^ 8 % 8 = d.toNat / 2 ^ 8 % 8 := field_and (len := 3) (by decide)
    have hleak : (d &&& Rw.eqCfg.mask).toNat / 2 ^ 16 % 32 = d.toNat / 2 ^ 16 % 32 := field_and (len := 5) (by decide)
    rw [Rw.legal, Rw.legal, hlow, hdfe, hleak]
  case eqStride => rw [Rw.legal, Rw.legal, show 65536 = 2 ^ 16 from rfl, low_and 16 (by decide)]
  case eqTapSel =>
    have hbank : (d &&& Rw.eqTapSel.mask).toNat / 2 ^ 8 % 4 = d.toNat / 2 ^ 8 % 4 := field_and (len := 2) (by decide)
    rw [Rw.legal, Rw.legal, hbank]
  case deemphCfg => rw [Rw.legal, Rw.legal, show 4 = 2 ^ 2 from rfl, low_and 2 (by decide)]
  case chlpfCfg =>
    have hlow : (d &&& Rw.chlpfCfg.mask).toNat % 8 = d.toNat % 8 := low_and 3 (by decide)
    have hwnd : (d &&& Rw.chlpfCfg.mask).toNat / 2 ^ 8 % 8 = d.toNat / 2 ^ 8 % 8 := field_and (len := 3) (by decide)
    rw [Rw.legal, Rw.legal, hlow, hwnd]
  case rsL => rw [Rw.legal, Rw.legal, show 65536 = 2 ^ 16 from rfl, low_and 16 (by decide)]
  case rsM => rw [Rw.legal, Rw.legal, show 65536 = 2 ^ 16 from rfl, low_and 16 (by decide)]
  case rsK =>
    have hlow : (d &&& Rw.rsK.mask).toNat % 32 = d.toNat % 32 := low_and 5 (by decide)
    rw [Rw.legal, Rw.legal, hlow]
  case slMsize => rw [Rw.legal, Rw.legal, show 2048 = 2 ^ 11 from rfl, low_and 11 (by decide)]
  case slSsize => rw [Rw.legal, Rw.legal, show 4096 = 2 ^ 12 from rfl, low_and 12 (by decide)]
  all_goals simp only [Rw.legal, Rw.mask, hfull]

/-- A legal word with its reserved bits cleared may be stored (R71). -/
theorem holds_masked {r : Rw} {d : Word} (h : r.legal d = true) : r.holds (d &&& r.mask) = true := by
  have hzero : d &&& r.mask &&& ~~~r.mask = 0#32 := by simp [BitVec.and_assoc]
  rw [Rw.holds, legal_and_mask, h, hzero]
  rfl

theorem mem_allRw (r : Rw) : r ∈ allRw := by cases r <;> decide

theorem csrFile_wf_iff (f : CsrFile) : f.wf = true ↔ ∀ r : Rw, r.holds (f.get r) = true := by
  rw [CsrFile.wf, List.all_eq_true]
  exact ⟨fun h r => h r (mem_allRw r), fun h r _ => h r⟩

theorem csrFile_wf_set {f : CsrFile} {r : Rw} {d : Word} (hf : f.wf = true) (hd : r.legal d = true) :
    (f.set r (d &&& r.mask)).wf = true := by
  rw [csrFile_wf_iff] at hf ⊢
  intro q
  by_cases hq : q = r
  · rw [hq, CsrFile.get_set]; exact holds_masked hd
  · rw [CsrFile.get_set_ne _ _ _ _ hq]; exact hf q

/-- In a legal file every register is legal. -/
theorem legal_of_wf {f : CsrFile} (hf : f.wf = true) (r : Rw) : r.legal (f.get r) = true := by
  have h := (csrFile_wf_iff f).mp hf r
  rw [Rw.holds, Bool.and_eq_true] at h
  exact h.1

theorem slMsize_range {f : CsrFile} (hf : f.wf = true) :
    1 ≤ f.field .slMsize 0 11 ∧ f.field .slMsize 0 11 ≤ 1024 := by
  rw [Commands.field_zero]
  exact of_decide_eq_true (legal_of_wf hf .slMsize)

theorem rsM_pos {f : CsrFile} (hf : f.wf = true) : 0 < (f.get .rsM).toNat % 65536 :=
  (of_decide_eq_true (legal_of_wf hf .rsM)).1

/-! ## Slicer and symbol history -/

theorem slicer_wf_iff (sl : Slicer F32) :
    sl.wf = true ↔ sl.maxbuf.length = 1024 ∧ sl.minbuf.length = 1024 ∧ sl.midx < 1024 ∧ sl.fill ≤ 1024 ∧
      sl = sl.derive .binary32 := by
  simp only [Slicer.wf, Bool.and_eq_true, beq_iff_eq, decide_eq_true_eq, and_assoc]
  rfl

/-- The rolling update keeps the form of the slicer (R460). -/
theorem slicer_roll_wf {sl : Slicer F32} (h : sl.wf = true) {ms : Nat} (hms : 1 ≤ ms ∧ ms ≤ 1024) (hi lo : F32) :
    (sl.roll .binary32 ms hi lo).wf = true := by
  rw [slicer_wf_iff] at h ⊢
  obtain ⟨hmax, hmin, hidx, hfill, -⟩ := h
  refine ⟨(List.length_set ..).trans hmax, (List.length_set ..).trans hmin, ?_, ?_, rfl⟩
  · exact Nat.lt_of_lt_of_le (Nat.mod_lt _ hms.1) hms.2
  · exact Nat.le_trans (Nat.min_le_right _ _) hms.2

/-- A warm-start keeps the form of the slicer (R470). -/
theorem slicer_warm_wf {sl : Slicer F32} (h : sl.wf = true) {ms : Nat} (hms : ms ≤ 1024) (mp mn : F32) :
    (sl.warm .binary32 ms mp mn).wf = true := by
  rw [slicer_wf_iff] at h ⊢
  obtain ⟨hmax, hmin, hidx, hfill, -⟩ := h
  have hbuf (x : F32) (buf : List F32) (hb : buf.length = 1024) :
      (List.replicate (Nat.min ms buf.length) x ++ buf.drop ms).length = 1024 := by
    rw [List.length_append, List.length_replicate, List.length_drop, hb, show Nat.min ms 1024 = ms from Nat.min_eq_left hms]
    omega
  exact ⟨hbuf mp _ hmax, hbuf mn _ hmin, Nat.zero_lt_succ _, hms, rfl⟩

/-- A CQPSK warm-start keeps the form of the slicer (R475). -/
theorem slicer_warmCq_wf {sl : Slicer F32} (h : sl.wf = true) (mp mn : F32) : (sl.warmCq .binary32 mp mn).wf = true := by
  rw [slicer_wf_iff] at h ⊢
  obtain ⟨hmax, hmin, hidx, hfill, -⟩ := h
  exact ⟨hmax, hmin, hidx, hfill, rfl⟩

/-- Re-digitization keeps the form of the history (R483). -/
theorem redigitize_wf (p : Params F32) {s : State} (h : s.sh.wf = true) : (redigitize p s).1.sh.wf = true := by
  have hfold (is : List Nat) (acc : History F32 × List (Dibit × Rel)) (hacc : acc.1.wf = true) :
      (is.foldl (fun acc j => redigitizeOne p s acc (dmrSyncLen + min rosSpan (s.sh.n - dmrSyncLen) - 1 - j)) acc).1.wf
        = true := by
    induction is generalizing acc with
    | nil => exact hacc
    | cons i is ih => exact ih _ (History.rewrite_wf _ _ _ _ hacc)
  exact hfold _ _ h

/-! ## Warm-start and resample-on-sync -/

/-- The results that a warm-start records (R193). -/
theorem wsResult_code_le {r : WsResult} (h : r ≠ .nullState) : r.code.toNat ≤ 3 := by
  cases r
  case nullState => exact absurd rfl h
  all_goals decide

theorem warmStart_keeps {s : State} (hcfg : s.cfg.wf = true) (h : s.sl.wf = true) (n : Nat) :
    ∃ sl r, warmStart .binary32 s n = ({ s with sl := sl, lastWs := r.code }, r) ∧ sl.wf = true ∧ r.code.toNat ≤ 3 := by
  obtain ⟨sl, r, heq, hr, hkeep, hok⟩ := warmStart_spec .binary32 s n
  refine ⟨sl, r, heq, ?_, wsResult_code_le hr⟩
  by_cases hres : r = .ok
  · obtain ⟨mp, mn, hsl, -⟩ := hok hres
    rw [hsl]
    exact slicer_warm_wf h (slMsize_range hcfg).2 mp mn
  · rw [hkeep hres]; exact h

theorem warmStartCq_keeps {s : State} (h : s.sl.wf = true) (n : Nat) :
    ∃ sl r, warmStartCq .binary32 s n = ({ s with sl := sl, lastWs := r.code }, r) ∧ sl.wf = true ∧
      r.code.toNat ≤ 3 := by
  obtain ⟨sl, r, heq, hr, hkeep, hok⟩ := warmStartCq_spec .binary32 s n
  refine ⟨sl, r, heq, ?_, wsResult_code_le hr⟩
  by_cases hres : r = .ok
  · obtain ⟨mp, mn, hsl, -⟩ := hok hres
    rw [hsl]
    exact slicer_warmCq_wf h mp mn
  · rw [hkeep hres]; exact h

theorem warmStartPath_keeps {s : State} (hcfg : s.cfg.wf = true) (h : s.sl.wf = true) (n : Nat) :
    ∃ sl r, warmStartPath .binary32 s n = ({ s with sl := sl, lastWs := r.code }, r) ∧ sl.wf = true ∧
      r.code.toNat ≤ 3 := by
  unfold warmStartPath
  split
  · exact warmStartCq_keeps h n
  · exact warmStart_keeps hcfg h n

/-- The best of a list of scores is one of the list (R481). -/
theorem bestFrom_lt {F : RealFormat F32} (xs : List F32) (i best : Nat) (top : F32) {n : Nat} (hbest : best < n)
    (hn : i + xs.length ≤ n) : bestFrom F i best top xs < n := by
  induction xs generalizing i best top with
  | nil => exact hbest
  | cons x xs ih =>
    rw [List.length_cons] at hn
    unfold bestFrom
    split
    · exact ih _ _ _ (by omega) (by omega)
    · exact ih _ _ _ hbest (by omega)

/-- The best pattern is one of the eight (R481). -/
theorem bestPattern_lt (free : Nat) (h : History F32) : (bestPattern Params.default free h).1 < 8 := by
  have hlen : (Params.default.dmrPatterns.map (dmrScore .binary32 (syncSymbols .binary32 h))).length = 8 := by
    rw [List.length_map]; rfl
  unfold bestPattern
  dsimp only
  split
  · exact Nat.mod_lt _ (by decide)
  · split
    · exact Nat.zero_lt_succ _
    · next x xs hx =>
      rw [hx, List.length_cons] at hlen
      exact bestFrom_lt _ _ _ _ (by decide) (by omega)

/-- What resample-on-sync keeps (R480 to R486). -/
theorem dmrRos_keeps {s : State} (hcfg : s.cfg.wf = true) (hsl : s.sl.wf = true) (hsh : s.sh.wf = true)
    (hdmr : s.dmr.best < 8) (hws : s.lastWs.toNat ≤ 3) :
    ∃ dmr sl lastWs sh free,
      (dmrRos Params.default s).1 = { s with dmr := dmr, sl := sl, lastWs := lastWs, sh := sh, free := free } ∧
        dmr.best < 8 ∧ sl.wf = true ∧ lastWs.toNat ≤ 3 ∧ sh.wf = true := by
  unfold dmrRos
  split
  · exact ⟨s.dmr, s.sl, s.lastWs, s.sh, s.free, rfl, hdmr, hsl, hws, hsh⟩
  · obtain ⟨sl, r, h, hsl', hr⟩ := warmStartPath_keeps
      (s := { s with
        dmr := { s.dmr with best := (bestPattern Params.default s.free s.sh).1, bvalid := true }
        free := (bestPattern Params.default s.free s.sh).2 }) hcfg hsl dmrSyncLen
    dsimp only at h ⊢
    rw [h]
    exact ⟨_, _, _, _, _, rfl, bestPattern_lt _ _, hsl', hr, redigitize_wf _ hsh⟩

end Sys2Proof.Proofs.Invariant
end

section
/-! PROOF. The machine invariant through a block: every stage keeps it (R45 to R65). -/

namespace Sys2Proof.Proofs.Invariant
open Sys2Proof Sys2Proof.Machine

/-- `State.inv` part by part, but for the block in progress. -/
structure Inv (s : State) : Prop where
  csr : s.csr.wf = true
  cfg : s.cfg.wf = true
  fs4n : s.fs4n < 4
  hbLength : s.hb.length = 4
  hb : ∀ h ∈ s.hb, h.wf = true
  ted : s.ted.wf = true
  be : s.be.fits s.key.be = true
  ch : s.ch.fits s.key.ch = true
  rs : s.rs.fits s.key.rs = true
  eq : s.eq.wf = true
  sl : s.sl.wf = true
  sh : s.sh.wf = true
  sync : s.sync.wf = true
  perm : s.perm.wf = true
  best : s.dmr.best < 8
  lastErr : s.lastErr.toNat ≤ 6
  lastWs : s.lastWs.toNat ≤ 3
  ports : s.ports.wf = true

theorem inv_iff (s : State) : s.inv = true ↔ Inv s ∧ s.work = Work.idle := by
  simp only [State.inv, State.codesWf, Bool.and_eq_true, beq_iff_eq, decide_eq_true_eq, List.all_eq_true]
  constructor
  · rintro ⟨⟨⟨⟨⟨⟨⟨⟨⟨⟨⟨⟨⟨⟨⟨⟨h1, h2⟩, h3⟩, h4, h5⟩, h6⟩, h7⟩, h8⟩, h9⟩, h10⟩, h11⟩, h12⟩, h13⟩, h14⟩, h15⟩, h16, h17⟩, h18⟩, h19⟩
    exact ⟨⟨h1, h2, h3, h4, h5, h6, h7, h8, h9, h10, h11, h12, h13, h14, h15, h16, h17, h18⟩, h19⟩
  · rintro ⟨h, hw⟩
    exact ⟨⟨⟨⟨⟨⟨⟨⟨⟨⟨⟨⟨⟨⟨⟨⟨h.csr, h.cfg⟩, h.fs4n⟩, h.hbLength, h.hb⟩, h.ted⟩, h.be⟩, h.ch⟩, h.rs⟩, h.eq⟩, h.sl⟩, h.sh⟩,
      h.sync⟩, h.perm⟩, h.best⟩, h.lastErr, h.lastWs⟩, h.ports⟩, hw⟩

/-- The invariant within a block: an enabled resampler is designed from the CSR values now (R264). -/
structure Running (s : State) : Prop extends Inv s where
  rsKey : s.on .resamp = true → s.key.rs = some [s.cfg.get .rsL, s.cfg.get .rsM, s.cfg.get .rsK]

variable {s : State}

/-! ## Stages whose state has no bound -/

theorem running_dcb (h : Running s) : Running (stageDcb .binary32 s) := by rw [stageDcb_frame]; exact { h with }
theorem running_agc (h : Running s) : Running (stageAgc .binary32 s) := by rw [stageAgc_frame]; exact { h with }
theorem running_lim (h : Running s) : Running (stageLim .binary32 s) := by rw [stageLim_frame]; exact { h with }
theorem running_iqb (h : Running s) : Running (stageIqb .binary32 s) := by rw [stageIqb_frame]; exact { h with }
theorem running_lfll (h : Running s) : Running (stageLfll .binary32 s) := by rw [stageLfll_frame]; exact { h with }
theorem running_disc (h : Running s) : Running (stageDisc Params.default s) := by rw [stageDisc_frame]; exact { h with }
theorem running_realStream (h : Running s) : Running (realStream .binary32 s) := { h with }
theorem running_deemph (h : Running s) : Running (stageDeemph .binary32 s) := by rw [stageDeemph_frame]; exact { h with }
theorem running_alpf (h : Running s) : Running (stageAlpf .binary32 s) := by rw [stageAlpf_frame]; exact { h with }
theorem running_diff (h : Running s) : Running (stageDiff .binary32 s) := by rw [stageDiff_frame]; exact { h with }

/-! ## Stages with sizes and ranges -/

theorem stageFs4_lt (h : s.fs4n < 4) : (stageFs4 .binary32 s).fs4n < 4 := by
  unfold stageFs4
  split
  · exact transduce_keeps (fun n : Nat => n < 4) _ (fun n _ _ => Nat.mod_lt _ (by decide)) _ _ h
  · exact h

theorem running_fs4 (h : Running s) : Running (stageFs4 .binary32 s) := by
  have hn := stageFs4_lt h.fs4n
  rw [stageFs4_frame]
  exact { h with fs4n := hn }

theorem hbCascade_keeps (n : Nat) (hs : List (HbStage F32)) (xs : List C32) (h : ∀ a ∈ hs, HbStage.wf a = true) :
    (hbCascade Params.default n hs xs).1.length = hs.length ∧
      ∀ a ∈ (hbCascade Params.default n hs xs).1, HbStage.wf a = true := by
  induction n generalizing hs xs with
  | zero => exact ⟨rfl, h⟩
  | succ n ih =>
    cases hs with
    | nil => exact ⟨rfl, h⟩
    | cons a hs =>
      obtain ⟨ha, hrest⟩ := List.forall_mem_cons.mp h
      have hfirst : HbStage.wf (transduce (hbStep Params.default) a xs).1 = true :=
        transduce_keeps (fun a => HbStage.wf a = true) _
          (fun a x ha => by rw [HbStage.wf, hbStep, push_length]; exact ha) _ _ ha
      obtain ⟨hlen, hall⟩ := ih hs (transduce (hbStep Params.default) a xs).2 hrest
      exact ⟨congrArg Nat.succ hlen, List.forall_mem_cons.mpr ⟨hfirst, hall⟩⟩

theorem stageHb_keeps (h : ∀ a ∈ s.hb, HbStage.wf a = true) :
    (stageHb Params.default s).hb.length = s.hb.length ∧ ∀ a ∈ (stageHb Params.default s).hb, HbStage.wf a = true := by
  unfold stageHb
  split
  · exact hbCascade_keeps _ _ _ h
  · exact ⟨rfl, h⟩

theorem running_hb (h : Running s) : Running (stageHb Params.default s) := by
  obtain ⟨hlen, hall⟩ := stageHb_keeps h.hb
  rw [h.hbLength] at hlen
  rw [stageHb_frame]
  exact { h with hb := hall, hbLength := hlen }

/-- The sizes of the band-edge FLL are those of its histories and taps. -/
theorem beFits_congr {b c : BeFll F32} (hh : c.h.length = b.h.length) (hup : c.up = b.up) (hlo : c.lo = b.lo)
    (k : Option (List Word)) : c.fits k = b.fits k := by
  unfold BeFll.fits
  rw [hh, hup, hlo]

theorem stageBefll_length : (stageBefll .binary32 s).be.h.length = s.be.h.length := by
  unfold stageBefll
  split
  · exact transduce_keeps (fun b : BeFll F32 => b.h.length = s.be.h.length) _
      (fun b x h => (push_length _ _).trans h) _ _ rfl
  · rfl

theorem running_befll (h : Running s) : Running (stageBefll .binary32 s) := by
  have hfits : (stageBefll .binary32 s).be.fits s.key.be = true :=
    (beFits_congr stageBefll_length (by rw [Stages.stageBefll_be]) (by rw [Stages.stageBefll_be]) _).trans h.be
  rw [stageBefll_frame]
  exact { h with be := hfits }

theorem tedStep_wf {g : F32} {d : Ted F32} (x : C32) (h : d.wf = true) : (tedStep .binary32 g d x).1.wf = true := by
  rw [Stages.tedStep_keeps]
  simp only [Ted.wf, push_length] at h ⊢
  exact h

theorem running_ted (h : Running s) : Running (stageTed .binary32 s) := by
  have hwf : (stageTed .binary32 s).ted.wf = true := by
    unfold stageTed
    split
    · exact transduce_keeps (fun d : Ted F32 => d.wf = true) _ (fun d x hd => tedStep_wf x hd) _ _ h.ted
    · exact h.ted
  rw [stageTed_frame]
  exact { h with ted := hwf }

theorem running_costas (h : Running s) : Running (stageCostas .binary32 s) := by
  have hwf : (stageCostas .binary32 s).ted.wf = true := by
    unfold stageCostas
    split
    · exact transduce_keeps (fun st : Costas F32 × Ted F32 => st.2.wf = true) _ (fun st x hd => tedStep_wf x hd) _ _ h.ted
    · exact h.ted
  rw [stageCostas_frame]
  exact { h with ted := hwf }

/-! ### Equalizer -/

theorem updateTaps_length {R : Type} (n : Nat) (f : Cplx R → Cplx R → Cplx R) {taps hist : List (Cplx R)}
    (h : taps.length ≤ hist.length) : (updateTaps n f taps hist).length = taps.length := by
  rw [updateTaps, List.length_append, List.length_zipWith, List.length_take, List.length_drop]
  omega

theorem equalizer_wf_iff (q : Equalizer F32) :
    q.wf = true ↔ q.w.length = 31 ∧ q.v.length = 31 ∧ q.b.length = 4 ∧ q.x.length = 31 ∧ q.d.length = 4 ∧
      q.cma ≤ 65535 := by
  simp only [Equalizer.wf, Bool.and_eq_true, beq_iff_eq, decide_eq_true_eq, and_assoc]
  rfl

theorem eqAdapt_wf (c : CsrFile) {q : Equalizer F32} (e : C32) (h : q.wf = true) : (eqAdapt .binary32 c q e).wf = true := by
  rw [equalizer_wf_iff] at h ⊢
  obtain ⟨hw, hv, hb, hx, hd, hcma⟩ := h
  exact ⟨(updateTaps_length _ _ (by rw [hw, hx])).trans hw, (updateTaps_length _ _ (by rw [hv, hx])).trans hv,
    (updateTaps_length _ _ (by rw [hb, hd])).trans hb, hx, hd, hcma⟩

theorem eqLearn_wf (c : CsrFile) {q : Equalizer F32} (y a : C32) (h : q.wf = true) :
    (eqLearn .binary32 c q y a).wf = true := by
  have hcount (n : Nat) : Equalizer.wf { q with cma := q.cma - 1, stride := n } = true := by
    rw [equalizer_wf_iff] at h ⊢
    obtain ⟨hw, hv, hb, hx, hd, hcma⟩ := h
    exact ⟨hw, hv, hb, hx, hd, by dsimp only; omega⟩
  unfold eqLearn
  dsimp only
  split
  · split
    · exact eqAdapt_wf c _ (hcount 0)
    · exact hcount _
  · exact h

theorem eqStep_wf (c : CsrFile) {q : Equalizer F32} (x : C32) (h : q.wf = true) : (eqStep .binary32 c q x).1.wf = true := by
  have hpush : Equalizer.wf { eqGate .binary32 c q x with x := push q.x x } = true := by
    rw [equalizer_wf_iff] at h ⊢
    obtain ⟨hw, hv, hb, hx, hd, hcma⟩ := h
    exact ⟨hw, hv, hb, (push_length _ _).trans hx, hd, hcma⟩
  have hlearn (y a : C32) := eqLearn_wf c y a hpush
  unfold eqStep
  rw [equalizer_wf_iff]
  obtain ⟨hw, hv, hb, hx, hd, hcma⟩ := (equalizer_wf_iff _).mp (hlearn _ _)
  exact ⟨hw, hv, hb, hx, (push_length _ _).trans hd, hcma⟩

theorem eqArm_wf (c : CsrFile) {q : Equalizer F32} (h : q.wf = true) : (eqArm c q).wf = true := by
  rw [equalizer_wf_iff] at h ⊢
  obtain ⟨hw, hv, hb, hx, hd, hcma⟩ := h
  refine ⟨hw, hv, hb, hx, hd, ?_⟩
  rw [Stages.eqArm_eq]
  dsimp only
  split
  · rw [Commands.field_zero]; omega
  · exact hcma

theorem running_eq (h : Running s) : Running (stageEq .binary32 s) := by
  have hwf : (stageEq .binary32 s).eq.wf = true := by
    unfold stageEq
    split
    · exact transduce_keeps (fun q : Equalizer F32 => q.wf = true) _ (fun q x hq => eqStep_wf _ x hq) _ _
        (eqArm_wf _ h.eq)
    · exact h.eq
  rw [stageEq_frame]
  exact { h with eq := hwf }

/-! ### Channel LPF and resampler -/

theorem stageChlpf_length : (stageChlpf .binary32 s).ch.h.length = s.ch.h.length := by
  unfold stageChlpf
  split
  · exact transduce_keeps (fun c : ChLpf F32 => c.h.length = s.ch.h.length) _
      (fun c x h => (push_length _ _).trans h) _ _ rfl
  · rfl

theorem chFits_congr {b c : ChLpf F32} (hh : c.h.length = b.h.length) (ht : c.taps = b.taps) (k : Option (List Word)) :
    c.fits k = b.fits k := by
  have hnil : (c.h == []) = (b.h == []) := by
    rw [Bool.eq_iff_iff, beq_iff_eq, beq_iff_eq, ← List.length_eq_zero_iff, hh, List.length_eq_zero_iff]
  unfold ChLpf.fits
  rw [hnil, hh, ht]

theorem running_chlpf (h : Running s) : Running (stageChlpf .binary32 s) := by
  have hfits : (stageChlpf .binary32 s).ch.fits s.key.ch = true :=
    (chFits_congr stageChlpf_length (by rw [Stages.stageChlpf_ch]) _).trans h.ch
  rw [stageChlpf_frame]
  exact { h with ch := hfits }

/-- The sizes of a designed resampler, and the range of its accumulator (R59, R430). -/
theorem rsFits_iff (r : Resamp F32) (c : CsrFile) :
    r.fits (some [c.get .rsL, c.get .rsM, c.get .rsK]) = true ↔
      r.h.length = c.rsTaps ∧ r.taps.length = (if c.ratio.1 = c.ratio.2 then 0 else c.rsTaps * c.ratio.1) ∧
        r.acc < c.ratio.2 := by
  simp only [Resamp.fits, Bool.and_eq_true, beq_iff_eq, decide_eq_true_eq, and_assoc, CsrFile.ratio, CsrFile.rsTaps,
    Commands.field_zero]
  rfl

/-- The accumulator is in 0..M − 1 after every input (R59, R435). -/
theorem resampStep_acc {k l m : Nat} {r : Resamp F32} (x : C32) (h : r.acc < m) :
    (resampStep .binary32 k l m r x).1.acc < m := by
  have hm : 0 < m := by omega
  rw [resampStep, Stages.resampEmit_eq .binary32 hm _ _ (Nat.le_add_left ..)]
  dsimp only
  rcases Nat.lt_or_ge r.acc l with hlt | hge
  · have hdiv := Nat.div_mul_le_self (l - r.acc + m - 1) m
    omega
  · rw [Nat.div_eq_of_lt (by omega), Nat.zero_mul]
    omega

theorem running_resamp (h : Running s) : Running (stageResamp .binary32 s) := by
  have hfits : (stageResamp .binary32 s).rs.fits s.key.rs = true := by
    unfold stageResamp
    split
    · next hon =>
      have hkey := h.rsKey (Bool.and_eq_true _ _ ▸ hon : _ ∧ _).1
      have hstart := h.rs
      rw [hkey, rsFits_iff] at hstart
      rw [hkey, rsFits_iff]
      refine transduce_keeps
        (fun r : Resamp F32 => r.h.length = s.cfg.rsTaps ∧
          r.taps.length = (if s.cfg.ratio.1 = s.cfg.ratio.2 then 0 else s.cfg.rsTaps * s.cfg.ratio.1) ∧
          r.acc < s.cfg.ratio.2) _ (fun r x hr => ?_) _ _ hstart
      refine ⟨?_, ?_, resampStep_acc x hr.2.2⟩
      · rw [Stages.resampStep_keeps]; exact (push_length _ _).trans hr.1
      · rw [Stages.resampStep_keeps]; exact hr.2.1
    · exact h.rs
  rw [stageResamp_frame]
  exact { h with rs := hfits }

/-! ### Audio output -/

theorem running_audioOutput (h : Running s) : Running (audioOutput Params.default s) := by
  have hfold (zs : List C32) (t : State) (ht : Running t) :
      Running (zs.foldl (fun t z => t.audioPush Params.default (audioSample .binary32 z)) t) := by
    induction zs generalizing t with
    | nil => exact ht
    | cons z zs ih =>
      refine ih _ { ht with ports := ?_ }
      have hports := ht.ports
      simp only [Ports.wf, Bool.and_eq_true, decide_eq_true_eq] at hports ⊢
      exact ⟨hports.1, appendDropOld_length_le _ _ _ (by decide) hports.2⟩
  unfold audioOutput
  split
  · exact hfold s.work.xs s h
  · exact h

/-- The stages before the slicer keep the invariant (R260). -/
theorem running_pathStages (h : Running s) : Running (Steps.pathStages Params.default s) := by
  unfold Steps.pathStages
  split
  · exact running_diff (running_eq (running_ted (running_costas (running_befll (running_resamp (running_chlpf
      (running_iqb (running_dcb (running_hb (running_fs4 h))))))))))
  · exact running_ted (running_audioOutput (running_resamp (running_alpf (running_chlpf (running_deemph
      (running_realStream (running_disc (running_lfll (running_iqb (running_lim (running_agc (running_dcb (running_hb
        (running_fs4 h))))))))))))))

end Sys2Proof.Proofs.Invariant
end

section
/-! PROOF. Every step keeps the machine invariant (R590): what precedes a block, the symbol chain, the commands; O55, O56. -/

namespace Sys2Proof.Proofs.Invariant
open Sys2Proof Sys2Proof.Machine

variable {s : State}

/-! ## Retune reset and latch -/

theorem sync_wf_iff (y : Sync) :
    y.wf = true ↔ y.type ∈ syncTypeIds ∧ y.last ∈ syncTypeIds ∧ y.sr.length = 64 ∧ y.srn ≤ 64 := by
  simp only [Sync.wf, Bool.and_eq_true, beq_iff_eq, decide_eq_true_eq, and_assoc, List.contains_iff_mem]
  rfl

theorem ted_resetFor_wf (sps : Nat) : (Ted.resetFor .binary32 sps).wf = true := by
  simp [Ted.wf, Ted.resetFor]

theorem initFor_wf (n : Nat) : (Equalizer.initFor .binary32 n).wf = true := by
  rw [equalizer_wf_iff]
  exact ⟨by simp [Equalizer.initFor, ffeLenMax], rfl, rfl, rfl, rfl, Nat.zero_le _⟩

/-- A cleared history has the length of the history. -/
theorem clearHistory_length {R : Type} (F : RealFormat R) (h : List (Cplx R)) : (clearHistory F h).length = h.length :=
  List.length_replicate

/-- An accumulator of 0 is in range where any is (R59). -/
theorem rsFits_clear {r : Resamp F32} {k : Option (List Word)} (h : r.fits k = true) :
    Resamp.fits { r with h := clearHistory .binary32 r.h, acc := 0 } k = true := by
  unfold Resamp.fits at h ⊢
  split
  · simp only [Bool.and_eq_true, beq_iff_eq] at h ⊢
    exact ⟨⟨h.1.1, (clearHistory_length ..).trans h.1.2⟩, trivial⟩
  · simp only [Bool.and_eq_true, beq_iff_eq, decide_eq_true_eq] at h ⊢
    exact ⟨⟨(clearHistory_length ..).trans h.1.1, h.1.2⟩, by omega⟩
  · simp at h

theorem hbReset_wf : ∀ h ∈ hbReset Params.default, HbStage.wf h = true := by
  intro h hh
  rw [List.eq_of_mem_replicate hh]
  rfl

/-- The retune reset keeps the invariant (R592). -/
theorem inv_applyRetune (h : Inv s) : Inv (applyRetune Params.default s) := by
  unfold applyRetune
  split
  · obtain ⟨htype, hlast, -, -⟩ := (sync_wf_iff _).mp h.sync
    have hbe : BeFll.fits { s.be with phase := F32.zero, freq := F32.zero, h := clearHistory .binary32 s.be.h } s.key.be
        = true := by
      refine Eq.trans (beFits_congr ?_ ?_ ?_ _) h.be
      · exact clearHistory_length ..
      · rfl
      · rfl
    have hch : ChLpf.fits { s.ch with h := clearHistory .binary32 s.ch.h } s.key.ch = true := by
      refine Eq.trans (chFits_congr ?_ ?_ _) h.ch
      · exact clearHistory_length ..
      · rfl
    exact { h with
      hbLength := rfl
      hb := hbReset_wf
      ted := ted_resetFor_wf _
      be := hbe
      eq := initFor_wf _
      ch := hch
      rs := rsFits_clear h.rs
      sync := (sync_wf_iff _).mpr ⟨htype, hlast, List.length_replicate, Nat.zero_le _⟩
      perm := (by decide : Perm.identity.wf = true) }
  · exact h

theorem inv_latch (h : Inv s) : Inv s.latch := { h with cfg := h.csr }

/-! ## Design -/

theorem sps_eq (c : CsrFile) : c.sps = (c.get .tedSps).toNat % 256 := Commands.field_zero ..

theorem beTaps_length (sps : Nat) (lower : Bool) : (beTaps .binary32 sps lower).length = 2 * sps + 1 := by
  simp [beTaps, bePrototypes]

theorem rsTapsOf_length (k l m : Nat) : (rsTapsOf .binary32 k l m).length = if l = m then 0 else k * l := by
  unfold rsTapsOf
  split
  · rfl
  · simp [List.length_flatMap, Nat.mul_comm]

/-- The tap count is odd (R404). -/
theorem chNtaps_pos (p : Params F32) (c : CsrFile) : 1 ≤ c.chNtaps p := by
  unfold CsrFile.chNtaps
  dsimp only
  generalize (p.winAtten c.chWindow * (c.get .fsIn).toNat + 22 * c.chTw * 2 ^ c.halvings - 1) /
    (22 * c.chTw * 2 ^ c.halvings) = n
  split <;> omega

theorem inv_designHb (h : Inv s) : Inv (designHb Params.default s) := by
  unfold designHb
  dsimp only
  split
  · exact { h with hbLength := rfl, hb := hbReset_wf }
  · exact h

theorem inv_designBe (h : Inv s) : Inv (designBe .binary32 s) := by
  unfold designBe
  dsimp only
  split
  · refine { h with be := ?_ }
    simp [BeFll.fits, beDesign, beTaps_length, sps_eq]
  · exact h

theorem Inv.withTed (h : Inv s) {d : Ted F32} (k : Option (List Word)) (hd : d.wf = true) :
    Inv { s with ted := d, key := { s.key with ted := k } } := { h with ted := hd }

theorem inv_designTed (h : Inv s) : Inv (designTed .binary32 s) := by
  unfold designTed
  dsimp only
  split
  · exact h.withTed _ (ted_resetFor_wf _)
  · exact h

theorem inv_designEq (h : Inv s) : Inv (designEq .binary32 s) := by
  unfold designEq
  dsimp only
  split
  · exact { h with eq := initFor_wf _ }
  · exact h

theorem inv_designDe (h : Inv s) : Inv (designDe .binary32 s) := by
  rw [designDe_frame]; exact { h with }

theorem inv_designCh (h : Inv s) : Inv (designCh Params.default s) := by
  unfold designCh
  dsimp only
  split
  · refine { h with ch := ?_ }
    have hpos := chNtaps_pos Params.default s.cfg
    simp only [ChLpf.fits, beq_iff_eq, List.length_replicate, chTaps, List.length_map, List.length_range]
    omega
  · exact h

theorem inv_designAl (h : Inv s) : Inv (designAl .binary32 s) := by
  rw [designAl_frame]; exact { h with }

theorem ratio_snd_pos {c : CsrFile} (h : c.wf = true) : 0 < c.ratio.2 := by
  have hm : 0 < c.field .rsM 0 16 := by rw [Commands.field_zero]; exact rsM_pos h
  exact Nat.div_pos (Nat.gcd_le_right _ hm) (Nat.gcd_pos_of_pos_right _ hm)

/-- After the design of the resampler the stages run (R264). -/
theorem running_designRs (h : Inv s) : Running (designRs .binary32 s) := by
  unfold designRs
  dsimp only
  split
  · refine { h with rs := ?_, rsKey := fun _ => rfl }
    exact (rsFits_iff _ s.cfg).mpr ⟨List.length_replicate, rsTapsOf_length _ _ _, ratio_snd_pos h.cfg⟩
  · next hkey => exact { h with rsKey := fun hon => by simpa [hon] using hkey }

/-- The block starts from a state of the invariant (R261, R262). -/
theorem running_blockStart (h : Inv s) (n : Nat) :
    Running (popSamples .binary32 (prepare Params.default s) n) := by
  have hprep : Running (prepare Params.default s) :=
    running_designRs (inv_designAl (inv_designCh (inv_designDe (inv_designEq (inv_designTed (inv_designBe (inv_designHb
      (inv_latch (inv_applyRetune h)))))))))
  refine { hprep with ports := ?_ }
  have hports := hprep.ports
  rw [Ports.wf, Bool.and_eq_true, decide_eq_true_eq] at hports ⊢
  exact ⟨(List.drop_sublist _ _).length_le.trans hports.1, hports.2⟩

/-! ## Symbol chain -/

theorem perm_wf_of_mem {π : Perm} (h : π ∈ permCandidates) : π.wf = true := by
  rw [Perm.wf, List.contains_iff_mem]; exact h

/-- Every ID that the table can give is of the closed set (R503, R505). -/
theorem entryId_mem (c : CsrFile) {e : SyncEntry} (h : e ∈ syncTable) : entryId c e ∈ syncTypeIds := by
  have htable : ∀ e ∈ syncTable, e.normalId ∈ syncTypeIds ∧ e.invertedId.getD e.normalId ∈ syncTypeIds := by decide
  unfold entryId
  split
  · exact (htable e h).2
  · exact (htable e h).1

theorem inv_srPush (h : Inv s) (d : Dibit) : Inv (srPush s d) := by
  refine { h with sync := ?_ }
  have hsync := h.sync
  rw [sync_wf_iff] at hsync ⊢
  obtain ⟨htype, hlast, hsr, -⟩ := hsync
  exact ⟨htype, hlast, (push_length _ _).trans hsr, Nat.min_le_right _ _⟩

theorem inv_stagePerm (h : Inv s) : Inv (stagePerm Params.default s) := by
  rcases Steps.stagePerm_spec Params.default s with hp | ⟨π, hπ, hp⟩ <;> rw [hp]
  · exact h
  · exact { h with perm := perm_wf_of_mem hπ }

theorem inv_stageWs (h : Inv s) : Inv (stageWs .binary32 s) := by
  unfold stageWs
  split
  · obtain ⟨sl, r, hw, hsl, hr⟩ := warmStartPath_keeps h.cfg h.sl s.work.syncLen
    rw [hw]
    exact { h with sl := hsl, lastWs := hr }
  · exact h

theorem inv_dmrRos (h : Inv s) : Inv (dmrRos Params.default s).1 := by
  obtain ⟨dmr, sl, lastWs, sh, free, hros, hbest, hsl, hws, hsh⟩ := dmrRos_keeps h.cfg h.sl h.sh h.best h.lastWs
  rw [hros]
  exact { h with best := hbest, sl := hsl, lastWs := hws, sh := hsh }

theorem inv_stageDmrRos (h : Inv s) : Inv (stageDmrRos Params.default s) := by
  unfold stageDmrRos
  split
  · exact { inv_dmrRos h with }
  · exact h

theorem inv_detect (h : Inv s) {e : SyncEntry} (he : e ∈ syncTable) : Inv (detect Params.default s e) := by
  obtain ⟨htype, hlast, hsr, hsrn⟩ := (sync_wf_iff _).mp h.sync
  have hstart : Inv (detectStart s e) :=
    { h with sync := (sync_wf_iff _).mpr ⟨entryId_mem _ he, htype, hsr, hsrn⟩ }
  have hend (t : State) (ht : Inv t) : Inv (detectEnd t) := by
    obtain ⟨htype, hlast, hsr, -⟩ := (sync_wf_iff _).mp ht.sync
    exact { ht with sync := (sync_wf_iff _).mpr ⟨htype, hlast, hsr, Nat.zero_le _⟩ }
  unfold detect
  dsimp only
  split
  · exact hend _ (inv_stageDmrRos hstart)
  · exact hend _ (inv_stageWs hstart)

theorem inv_stageScan (h : Inv s) : Inv (stageScan Params.default s) := by
  unfold stageScan
  split
  · have hsearch := inv_stagePerm (inv_srPush h s.work.d)
    rcases Steps.scan_spec Params.default s s.work.d with hscan | ⟨e, he, hscan⟩ <;> rw [hscan]
    · exact hsearch
    · exact inv_detect hsearch he
  · exact h

theorem inv_sliceSymbol (h : Inv s) (x : F32) : Inv (sliceSymbol Params.default s x) := by
  unfold sliceSymbol
  dsimp only
  split
  · exact { h with sh := History.push_wf _ _ _ _ h.sh }
  · exact { h with
      sh := History.push_wf _ _ _ _ h.sh
      sl := slicer_roll_wf h.sl (slMsize_range h.cfg) _ _ }

theorem inv_stageSlice (h : Inv s) : Inv (stageSlice Params.default s) :=
  Steps.stageSlice_keeps Inv _ (fun _ _ ht => inv_stageScan (inv_sliceSymbol ht _)) (fun _ ht => { ht with }) s h

/-! ## Steps -/

/-- Only `IQ_IN` and `AUDIO_OUT` are bounded (R143, R146). -/
theorem ports_wf_congr {p q : Ports F32} (hin : q.iqIn = p.iqIn) (hout : q.audioOut = p.audioOut) : q.wf = p.wf := by
  rw [Ports.wf, Ports.wf, hin, hout]

/-- The codes that a refused command records (R191, R193). -/
theorem status_code_le (e : Status) : e.code.toNat ≤ 6 := by cases e <;> decide

theorem inv_procEnd (h : Inv s) : Inv (Steps.procEnd s) := by
  have hrun := inv_stageSlice (running_pathStages (running_blockStart h s.csr.blockLength)).toInv
  unfold Steps.procEnd
  rw [Steps.block_eq]
  exact { hrun with }

theorem inv_reset : Inv State.reset := by
  refine ⟨?_, ?_, ?_, ?_, ?_, ?_, ?_, ?_, ?_, ?_, ?_, ?_, ?_, ?_, ?_, ?_, ?_, ?_⟩
  · decide +kernel
  · decide +kernel
  · decide
  · rfl
  · exact hbReset_wf
  · exact ted_resetFor_wf 5
  · rfl
  · rfl
  · rfl
  · exact initFor_wf 1
  · decide +kernel
  · decide +kernel
  · decide +kernel
  · decide
  · decide
  · decide
  · decide
  · decide

theorem Inv.withPorts (h : Inv s) {p : Ports F32} (n : Nat) (hp : p.wf = true) : Inv { s with ports := p, free := n } :=
  { h with ports := hp }

/-- The event of resample-on-sync is on an unbounded port (R145). -/
theorem inv_rosEvent (h : Inv s) (r : RosResult) : Inv (rosEvent s r) ∧ (rosEvent s r).work = s.work := by
  unfold rosEvent
  split
  · exact ⟨{ h with }, rfl⟩
  · exact ⟨h, rfl⟩

/-- Settles O55, part by part. -/
theorem invariantAtReset : Obligations.InvariantAtReset := (inv_iff _).mpr ⟨inv_reset, rfl⟩

/-- Settles O56, case by case of a step. -/
theorem stepKeepsInvariant : Obligations.StepKeepsInvariant := by
  unfold Obligations.StepKeepsInvariant
  intro s t hs hstep
  rw [inv_iff] at hs ⊢
  obtain ⟨h, hwork⟩ := hs
  cases Steps.step_cases hstep with
  | wait => exact ⟨h, hwork⟩
  | refuse n e hn he => exact ⟨{ h with lastErr := status_code_le e }, hwork⟩
  | answer payload => exact ⟨{ h with }, hwork⟩
  | csrw r d hd => exact ⟨{ h with csr := csrFile_wf_set h.csr hd }, hwork⟩
  | status d hdec => exact ⟨{ h with }, hwork⟩
  | csrr a w hdec => exact ⟨{ h with }, hwork⟩
  | proc hdec hok hlen => exact ⟨inv_procEnd h, (Steps.procEnd_spec s).work⟩
  | retune => exact ⟨{ h with }, hwork⟩
  | reset hdec =>
    exact ⟨inv_reset.withPorts s.free ((ports_wf_congr rfl rfl).trans h.ports), rfl⟩
  | wstart n payload =>
    obtain ⟨sl, r, hw, hsl, hr⟩ := warmStart_keeps (s := s.latch) h.csr h.sl n
    rw [hw]
    exact ⟨{ inv_latch h with sl := hsl, lastWs := hr }, hwork⟩
  | wstartCq n payload =>
    obtain ⟨sl, r, hw, hsl, hr⟩ := warmStartCq_keeps (s := s.latch) h.sl n
    rw [hw]
    exact ⟨{ inv_latch h with sl := hsl, lastWs := hr }, hwork⟩
  | dmrRos =>
    have hros := inv_dmrRos (inv_latch h)
    have hidle : (dmrRos Params.default s.latch).1.work = Work.idle := by
      obtain ⟨dmr, sl, lastWs, sh, free, hf⟩ := dmrRos_frame Params.default s.latch
      rw [hf]; exact hwork
    generalize dmrRos Params.default s.latch = a at hros hidle ⊢
    obtain ⟨hevent, hwork'⟩ := inv_rosEvent hros a.2
    exact ⟨{ hevent with }, hwork'.trans hidle⟩

end Sys2Proof.Proofs.Invariant
end

section
/-! PROOF. The warm-start (R470, R475): its checks as one result over the window, and what each form leaves; O25, O26. -/

namespace Sys2Proof.Proofs.Slicing
open Sys2Proof Sys2Proof.Machine

/-! ## The newest symbols (R459) -/

theorem back_eq {R : Type} (h : History R) (i : Nat) : h.back i = (h.w + 2047 - i) % 2048 := by
  simp only [History.back, symHistLen]
  congr 1

/-- The `i`-th most recent symbol of a history, its place in the ring written out. -/
def recent (h : History F32) (i : Nat) : F32 := h.v.getD ((h.w + 2047 - i) % 2048) F32.zero

theorem value_eq (h : History F32) (i : Nat) : h.value .binary32 i = recent h i := by
  rw [History.value, back_eq]
  rfl

/-- The window of the `n` newest symbols, newest first. -/
def window (h : History F32) (n : Nat) : List F32 := (List.range n).map (recent h)

theorem newest_eq (h : History F32) (n : Nat) : h.newest .binary32 n = window h n :=
  List.map_congr_left fun i _ => value_eq h i

/-! ## The checks of a warm-start (R470) -/

/-- The symbols of a window above 0. -/
def positives (win : List F32) : List F32 := win.filter (fun x => F32.lt F32.zero x)
/-- The symbols of a window below 0. -/
def negatives (win : List F32) : List F32 := win.filter (fun x => F32.lt x F32.zero)

theorem mean_eq (l : List F32) : F32.mean l = F32.div (F32.sum l) (F32.ofNat l.length) := by
  simp only [RealFormat.mean]

/-- The result code of a warm-start that is enabled, over the window `win` of `n` symbols of a history that holds `held`. -/
def spanCode (n held : Nat) (win : List F32) : BitVec 3 :=
  if n = 0 ∨ held < n then 2#3
  else if positives win = [] ∨ negatives win = [] ∨
      F32.lt (F32.sub (F32.mean (positives win)) (F32.mean (negatives win))) F32.one = true then 3#3
  else 0#3

theorem warmCheck_off {s : State} (h : s.on .ws = false) (n : Nat) :
    warmCheck .binary32 s n = (.disabled, F32.zero, F32.zero) := if_pos (by rw [h]; rfl)

/-- The checks of an enabled warm-start as one result, in any format REAL: none is skipped, and one that succeeds passes on
the class means. -/
theorem warmCheck_cases {R : Type} (F : RealFormat R) {s : State.Of R} (h : s.on .ws = true) {n : Nat} {pos neg : List R}
    (hpos : (s.sh.newest F n).filter (fun x => F.lt F.zero x) = pos)
    (hneg : (s.sh.newest F n).filter (fun x => F.lt x F.zero) = neg) :
    (warmCheck F s n).1.code =
        (if n = 0 ∨ s.sh.n < n then 2#3
        else if pos = [] ∨ neg = [] ∨ F.lt (F.sub (F.mean pos) (F.mean neg)) (minSpan F) = true then 3#3
        else 0#3) ∧
      ((warmCheck F s n).1 = .ok → (warmCheck F s n).2 = (F.mean pos, F.mean neg)) := by
  unfold warmCheck
  rw [h, hpos, hneg]
  by_cases hn : n = 0 ∨ s.sh.n < n
  · have hcheck : (decide (n = 0) || decide (s.sh.n < n)) = true := by simpa using hn
    simp [hn, hcheck, WsResult.code]
  · have hcheck : (decide (n = 0) || decide (s.sh.n < n)) = false := by simpa using hn
    by_cases hempty : pos = [] ∨ neg = []
    · have hclass : (pos.isEmpty || neg.isEmpty) = true := by simpa using hempty
      have hany : pos = [] ∨ neg = [] ∨ F.lt (F.sub (F.mean pos) (F.mean neg)) (minSpan F) = true :=
        hempty.imp id Or.inl
      simp [hn, hcheck, hclass, hany, WsResult.code]
    · have hclass : (pos.isEmpty || neg.isEmpty) = false := by simpa using hempty
      obtain ⟨hp, hq⟩ := not_or.mp hempty
      cases hspan : F.lt (F.sub (F.mean pos) (F.mean neg)) (minSpan F) <;>
        simp [hn, hcheck, hclass, hp, hq, hspan, WsResult.code]

/-- An enabled check records the code of its window, and passes on the class means of that window where it succeeds. -/
theorem warmCheck_on {s : State} (h : s.on .ws = true) (n : Nat) :
    (warmCheck .binary32 s n).1.code = spanCode n s.sh.n (window s.sh n) ∧
      ((warmCheck .binary32 s n).1 = .ok →
        (warmCheck .binary32 s n).2 =
          (F32.mean (positives (window s.sh n)), F32.mean (negatives (window s.sh n)))) := by
  have hpos : (s.sh.newest .binary32 n).filter (fun x => RealFormat.binary32.lt RealFormat.binary32.zero x) =
      positives (window s.sh n) := by rw [newest_eq]; rfl
  have hneg : (s.sh.newest .binary32 n).filter (fun x => RealFormat.binary32.lt x RealFormat.binary32.zero) =
      negatives (window s.sh n) := by rw [newest_eq]; rfl
  exact warmCheck_cases .binary32 h hpos hneg

theorem code_eq_zero_iff (r : WsResult) : r.code = 0#3 ↔ r = .ok := by cases r <;> decide

/-- The response word of a warm-start: status OK, the code in the low bits. -/
theorem ok_append_code (r : BitVec 3) : Status.ok.code ++ r.setWidth 24 = 0#29 ++ r := by
  revert r; decide

/-- The result code of `WSTART` and `WSTART_CQ`, the gate included. -/
def wstartCode (enabled : Bool) (n held : Nat) (win : List F32) : BitVec 3 :=
  if enabled = false then 1#3 else spanCode n held win

theorem warmCheck_code (s : State) (n : Nat) :
    (warmCheck .binary32 s n).1.code = wstartCode (s.on .ws) n s.sh.n (window s.sh n) := by
  unfold wstartCode
  cases h : s.on .ws
  · rw [warmCheck_off h]; rfl
  · rw [(warmCheck_on h n).1]; rfl

/-- A check that succeeds passes on the class means. -/
theorem warmCheck_means {s : State} {n : Nat} (h : (warmCheck .binary32 s n).1 = .ok) :
    (warmCheck .binary32 s n).2 = (F32.mean (positives (window s.sh n)), F32.mean (negatives (window s.sh n))) := by
  cases hon : s.on .ws
  · rw [warmCheck_off hon] at h; cases h
  · exact (warmCheck_on hon n).2 h

/-! ## The two forms of a warm-start -/

theorem warmStart_eq (s : State) (n : Nat) :
    (warmStart .binary32 s n).1 =
      { s with
        lastWs := wstartCode (s.on .ws) n s.sh.n (window s.sh n)
        sl :=
          if wstartCode (s.on .ws) n s.sh.n (window s.sh n) = 0#3 then
            s.sl.warm .binary32 (s.cfg.field .slMsize 0 11)
              (F32.mean (positives (window s.sh n))) (F32.mean (negatives (window s.sh n)))
          else s.sl } := by
  rw [← warmCheck_code]
  simp only [warmStart, code_eq_zero_iff]
  split
  · next h => rw [warmCheck_means h]
  · rfl

theorem warmStartCq_eq (s : State) (n : Nat) :
    (warmStartCq .binary32 s n).1 =
      { s with
        lastWs := wstartCode (s.on .ws) n s.sh.n (window s.sh n)
        sl :=
          if wstartCode (s.on .ws) n s.sh.n (window s.sh n) = 0#3 then
            s.sl.warmCq .binary32 (F32.mean (positives (window s.sh n))) (F32.mean (negatives (window s.sh n)))
          else s.sl } := by
  rw [← warmCheck_code]
  simp only [warmStartCq, code_eq_zero_iff]
  split
  · next h => rw [warmCheck_means h]
  · rfl

theorem warmStart_code (s : State) (n : Nat) :
    (warmStart .binary32 s n).2.code = wstartCode (s.on .ws) n s.sh.n (window s.sh n) := warmCheck_code s n

theorem warmStartCq_code (s : State) (n : Nat) :
    (warmStartCq .binary32 s n).2.code = wstartCode (s.on .ws) n s.sh.n (window s.sh n) := warmCheck_code s n

/-! ## The commands -/

theorem exec_wstart_refused {n : Nat} (h : 2048 < n) (s : State) : exec (.wstart n) s = .next (s.failed 1 0x05#8) :=
  if_pos h

theorem exec_wstartCq_refused {n : Nat} (h : 2048 < n) (s : State) : exec (.wstartCq n) s = .next (s.failed 1 0x05#8) :=
  if_pos h

/-- `WSTART` that is not refused: the latch, the warm-start, and the result code as the answer. -/
theorem exec_wstart {n : Nat} (h : n ≤ 2048) (s : State) :
    exec (.wstart n) s =
      .next (State.ended (warmStart .binary32 s.latch n).1 1
        [0#29 ++ wstartCode (s.csr.stageOn .ws) n s.sh.n (window s.sh n)]) := by
  refine (if_neg (Nat.not_lt.mpr h)).trans (congrArg Host.Outcome.next ?_)
  rw [warmStart_code, State.Of.done, State.Of.respond, ok_append_code]
  rfl

/-- `WSTART_CQ` that is not refused: the latch, the warm-start, and the result code as the answer. -/
theorem exec_wstartCq {n : Nat} (h : n ≤ 2048) (s : State) :
    exec (.wstartCq n) s =
      .next (State.ended (warmStartCq .binary32 s.latch n).1 1
        [0#29 ++ wstartCode (s.csr.stageOn .ws) n s.sh.n (window s.sh n)]) := by
  refine (if_neg (Nat.not_lt.mpr h)).trans (congrArg Host.Outcome.next ?_)
  rw [warmStartCq_code, State.Of.done, State.Of.respond, ok_append_code]
  rfl

/-! ## The pre-filled buffers (R470) -/

/-- A buffer whose first `ms` entries are replaced by `a`. -/
def prefilled (ms : Nat) (a : F32) (l : List F32) : List F32 := List.replicate (min ms l.length) a ++ l.drop ms

theorem prefilled_length (ms : Nat) (a : F32) (l : List F32) : (prefilled ms a l).length = l.length := by
  simp only [prefilled, List.length_append, List.length_replicate, List.length_drop]
  omega

theorem prefilled_lt {ms j : Nat} {l : List F32} (a : F32) (hj : j < ms) (hl : j < l.length) :
    (prefilled ms a l)[j]? = some a := by
  rw [prefilled, List.getElem?_append_left (by simp; omega), List.getElem?_replicate_of_lt (by omega)]

theorem prefilled_ge {ms j : Nat} (a : F32) (l : List F32) (hj : ms ≤ j) : (prefilled ms a l)[j]? = l[j]? := by
  rcases Nat.le_total ms l.length with hl | hl
  · rw [prefilled, List.getElem?_append_right (by simp; omega), List.getElem?_drop]
    simp only [List.length_replicate, Nat.min_eq_left hl]
    congr 1
    omega
  · rw [List.getElem?_eq_none (by rw [prefilled_length]; omega), List.getElem?_eq_none (by omega)]

/-- A window whose code is OK has class means at least 1.0 apart. -/
theorem span_of_spanCode {n held : Nat} {win : List F32} (h : spanCode n held win = 0#3) :
    F32.lt (F32.sub (F32.mean (positives win)) (F32.mean (negatives win))) F32.one = false := by
  unfold spanCode at h
  split at h
  · exact absurd h (by decide)
  · split at h
    · exact absurd h (by decide)
    · next hspan => exact Bool.eq_false_iff.mpr fun hlt => hspan (.inr (.inr hlt))

theorem span_of_wstartCode {b : Bool} {n held : Nat} {win : List F32} (h : wstartCode b n held win = 0#3) :
    F32.lt (F32.sub (F32.mean (positives win)) (F32.mean (negatives win))) F32.one = false := by
  unfold wstartCode at h
  split at h
  · exact absurd h (by decide)
  · exact span_of_spanCode h

theorem field_slMsize (f : CsrFile) : f.field .slMsize 0 11 = (f.get .slMsize).toNat % 2 ^ 11 :=
  Commands.field_zero f .slMsize 11

theorem derive_eq (sl : Slicer F32) :
    sl.derive .binary32 =
      { sl with
        umid := F32.add sl.center (F32.mul (F32.ofRat 625 1000) (F32.sub sl.max sl.center))
        lmid := F32.add sl.center (F32.mul (F32.ofRat 625 1000) (F32.sub sl.min sl.center))
        maxref := F32.mul (F32.ofRat 80 100) sl.max
        minref := F32.mul (F32.ofRat 80 100) sl.min } := by
  simp only [Slicer.derive, midFactor, refFactor]

theorem midpoint_eq (mp mn : F32) : Machine.midpoint .binary32 mp mn = F32.div (F32.add mp mn) (F32.ofNat 2) := by
  simp only [Machine.midpoint]

theorem warm_eq (sl : Slicer F32) (ms : Nat) (mp mn : F32) :
    sl.warm .binary32 ms mp mn =
      Slicer.derive .binary32
        { sl with
          max := mp, min := mn, center := F32.div (F32.add mp mn) (F32.ofNat 2)
          maxbuf := prefilled ms mp sl.maxbuf, minbuf := prefilled ms mn sl.minbuf
          midx := 0, fill := ms } := by
  simp only [Slicer.warm, midpoint_eq, prefilled, Nat.min_def]

theorem warmCq_eq (sl : Slicer F32) (mp mn : F32) :
    sl.warmCq .binary32 mp mn =
      Slicer.derive .binary32 { sl with center := F32.div (F32.add mp mn) (F32.ofNat 2) } := by
  simp only [Slicer.warmCq, midpoint_eq]

/-- `WSTART` that is not refused, the slicer it leaves kept by name. -/
theorem exec_wstart_ended {n : Nat} (h : n ≤ 2048) (s : State) :
    let r := wstartCode (s.csr.stageOn .ws) n s.sh.n (window s.sh n)
    exec (.wstart n) s =
      .next (State.ended
        { s with cfg := s.csr, sl := (warmStart .binary32 s.latch n).1.sl, lastWs := r, free := s.free + 1 } 1 [0#29 ++ r]) := by
  intro r
  rw [exec_wstart h, warmStart_eq]
  rfl

theorem warmStart_sl (s : State) (n : Nat) :
    (warmStart .binary32 s n).1.sl =
      if wstartCode (s.on .ws) n s.sh.n (window s.sh n) = 0#3 then
        s.sl.warm .binary32 (s.cfg.field .slMsize 0 11)
          (F32.mean (positives (window s.sh n))) (F32.mean (negatives (window s.sh n)))
      else s.sl := by rw [warmStart_eq]

/-- Settles O25: the checks of R470 as one result code, and the warm slicer field by field. -/
theorem wstartResult : Obligations.WstartResult := by
  unfold Obligations.WstartResult
  intro s n
  refine ⟨fun h => exec_wstart_refused h s, fun h => ?_⟩
  intro win pos neg mp mn ms r
  have hmp : F32.mean (positives (window s.sh n)) = mp := mean_eq _
  have hmn : F32.mean (negatives (window s.sh n)) = mn := mean_eq _
  have hcode : wstartCode (s.csr.stageOn .ws) n s.sh.n (window s.sh n) = r := by
    unfold wstartCode spanCode
    rw [hmp, hmn]
    rfl
  have hexec := exec_wstart_ended h s
  have hsl : (warmStart .binary32 s.latch n).1.sl =
      if wstartCode (s.csr.stageOn .ws) n s.sh.n (window s.sh n) = 0#3 then
        s.sl.warm .binary32 (s.csr.field .slMsize 0 11)
          (F32.mean (positives (window s.sh n))) (F32.mean (negatives (window s.sh n)))
      else s.sl := warmStart_sl s.latch n
  have hspan := @span_of_wstartCode (s.csr.stageOn .ws) n s.sh.n (window s.sh n)
  rw [hmp, hmn, field_slMsize, warm_eq, derive_eq] at hsl
  rw [hmp, hmn] at hspan
  rw [hcode] at hsl hexec hspan
  generalize (warmStart .binary32 s.latch n).1.sl = sl at hsl hexec
  clear_value r mp mn
  refine ⟨_, hexec, rfl, fun hr => hsl.trans (if_neg hr), fun hr => ?_⟩
  replace hsl := hsl.trans (if_pos hr)
  subst hsl
  refine ⟨hspan hr, rfl, rfl, rfl, rfl, rfl, rfl, rfl, rfl, rfl, prefilled_length .., prefilled_length .., fun j => ⟨?_, ?_⟩⟩
  · exact fun hj => ⟨prefilled_lt _ hj, prefilled_lt _ hj⟩
  · exact fun hj => ⟨prefilled_ge _ _ hj, prefilled_ge _ _ hj⟩

/-- Settles O26: as O25, with the slicer that keeps all but the center. -/
theorem wstartCqChangesCenterOnly : Obligations.WstartCqChangesCenterOnly := by
  unfold Obligations.WstartCqChangesCenterOnly
  intro s n
  refine ⟨fun h => exec_wstartCq_refused h s, fun h => ?_⟩
  intro win pos neg mp mn center r
  have hmp : F32.mean (positives (window s.sh n)) = mp := mean_eq _
  have hmn : F32.mean (negatives (window s.sh n)) = mn := mean_eq _
  have hcode : wstartCode (s.csr.stageOn .ws) n s.sh.n (window s.sh n) = r := by
    unfold wstartCode spanCode
    rw [hmp, hmn]
    rfl
  have hlatch : (warmStartCq .binary32 s.latch n).1 =
      { s.latch with
        lastWs := wstartCode (s.csr.stageOn .ws) n s.sh.n (window s.sh n)
        sl :=
          if wstartCode (s.csr.stageOn .ws) n s.sh.n (window s.sh n) = 0#3 then
            s.sl.warmCq .binary32 (F32.mean (positives (window s.sh n))) (F32.mean (negatives (window s.sh n)))
          else s.sl } := warmStartCq_eq s.latch n
  rw [exec_wstartCq h, hlatch, hcode, hmp, hmn, warmCq_eq, derive_eq]
  rfl

end Sys2Proof.Proofs.Slicing
end

section
/-! PROOF. DMR resample-on-sync (R480 to R483): the best pattern, the re-digitized dibits and where they go; O27. -/

namespace Sys2Proof.Proofs.Slicing
open Sys2Proof Sys2Proof.Machine

/-! ## The order of data that are no NaN -/

theorem lt_eq {x y : F32} (hx : x.isNan = false) (hy : y.isNan = false) : F32.lt x y = decide (x.key < y.key) := by
  simp [F32.lt, hx, hy]

/-! ## The best pattern (R481) -/

/-- `best` is the lowest index with the greatest of the first `i` scores. -/
def IsBest (score : Nat → F32) (i best : Nat) : Prop :=
  best < i ∧ (∀ q < i, F32.lt (score best) (score q) = false) ∧ ∀ q < best, F32.lt (score q) (score best) = true

/-- The search keeps what it has found and takes each further score into account. -/
theorem bestFrom_isBest {score : Nat → F32} (xs : List F32) {i best : Nat} (hbest : IsBest score i best)
    (hnan : ∀ q < i + xs.length, (score q).isNan = false) (hxs : ∀ j (hj : j < xs.length), score (i + j) = xs[j]) :
    IsBest score (i + xs.length) (bestFrom .binary32 i best (score best) xs) := by
  induction xs generalizing i best with
  | nil => exact hbest
  | cons x xs ih =>
    obtain ⟨hlt, hmax, hfirst⟩ := hbest
    have hx : score i = x := hxs 0 (Nat.zero_lt_succ _)
    have hlen : i + (x :: xs).length = (i + 1) + xs.length := by rw [List.length_cons]; omega
    have hrest : ∀ j (hj : j < xs.length), score (i + 1 + j) = xs[j] := fun j hj => by
      have := hxs (j + 1) (by rw [List.length_cons]; omega)
      rwa [show i + (j + 1) = i + 1 + j by omega] at this
    have hkey : ∀ a ≤ i, ∀ b ≤ i, F32.lt (score a) (score b) = decide ((score a).key < (score b).key) :=
      fun a ha b hb => lt_eq (hnan a (by omega)) (hnan b (by omega))
    rw [hlen] at hnan ⊢
    unfold bestFrom
    rw [← hx]
    split <;> rename_i htop
    · replace htop : F32.lt (score best) (score i) = true := htop
      rw [hkey _ hlt.le _ le_rfl, decide_eq_true_eq] at htop
      refine ih ⟨Nat.lt_succ_self i, fun q hq => ?_, fun q hq => ?_⟩ hnan hrest
      · rcases Nat.lt_or_eq_of_le (Nat.le_of_lt_succ hq) with hq | rfl
        · have := hmax q hq
          rw [hkey _ hlt.le _ hq.le, decide_eq_false_iff_not] at this
          rw [hkey _ le_rfl _ hq.le, decide_eq_false_iff_not]
          omega
        · simp [F32.lt]
      · have := hmax q hq
        rw [hkey _ hlt.le _ hq.le, decide_eq_false_iff_not] at this
        rw [hkey _ hq.le _ le_rfl, decide_eq_true_eq]
        omega
    · replace htop : F32.lt (score best) (score i) = false := Bool.not_eq_true _ ▸ htop
      refine ih ⟨Nat.lt_succ_of_lt hlt, fun q hq => ?_, hfirst⟩ hnan hrest
      rcases Nat.lt_or_eq_of_le (Nat.le_of_lt_succ hq) with hq | rfl
      · exact hmax q hq
      · exact htop

/-! ## Re-digitizing (R483) -/

section
variable {p : Params F32} {s : State}

/-- What re-digitizing decides of the `i`-th most recent symbol of a history. -/
def redecided (p : Params F32) (s : State) (h : History F32) (i : Nat) : Dibit × Rel :=
  (s.correct (s.dibitOf p.real (h.value p.real i)), s.reliability p (h.value p.real i))

/-- Re-digitizing places one after another: the symbols stay, and each decision goes back to its place. -/
theorem foldl_redigitizeOne (l : List Nat) (f : Nat → Nat) (h : History F32) (out : List (Dibit × Rel)) :
    l.foldl (fun acc j => redigitizeOne p s acc (f j)) (h, out) =
      ({ h with
          d := l.foldl (fun d j => d.set (h.back (f j)) (redecided p s h (f j)).1) h.d
          r := l.foldl (fun r j => r.set (h.back (f j)) (redecided p s h (f j)).2) h.r },
        out ++ l.map (fun j => redecided p s h (f j))) := by
  induction l generalizing h out with
  | nil => simp
  | cons j l ih =>
    rw [List.foldl_cons, redigitizeOne, ih]
    simp only [List.foldl_cons, List.map_cons, List.append_assoc, List.singleton_append]
    rfl

end

/-- Entries written at distinct places of a list: each is there afterwards, and every other place is as it was. -/
theorem getElem?_foldl_set {α : Type} (place : Nat → Nat) (e : Nat → α) (k : Nat) (l : List α) :
    (∀ m, (∀ j < k, m ≠ place j) →
        ((List.range k).foldl (fun l j => l.set (place j) (e j)) l)[m]? = l[m]?) ∧
      ((∀ i < k, ∀ j < k, place i = place j → i = j) → ∀ j < k, place j < l.length →
        ((List.range k).foldl (fun l j => l.set (place j) (e j)) l)[place j]? = some (e j)) := by
  have hlen : ∀ k, ((List.range k).foldl (fun l j => l.set (place j) (e j)) l).length = l.length := by
    intro k
    induction k with
    | zero => rfl
    | succ k ih => rw [List.range_succ, List.foldl_append, List.foldl_cons, List.foldl_nil, List.length_set, ih]
  induction k with
  | zero => exact ⟨fun _ _ => rfl, fun _ j hj => absurd hj (Nat.not_lt_zero j)⟩
  | succ k ih =>
    obtain ⟨hkeep, hset⟩ := ih
    rw [List.range_succ, List.foldl_append, List.foldl_cons, List.foldl_nil]
    refine ⟨fun m hm => ?_, fun hinj j hj hl => ?_⟩
    · rw [List.getElem?_set_ne (Ne.symm (hm k (Nat.lt_succ_self k)))]
      exact hkeep m fun j hj => hm j (Nat.lt_succ_of_lt hj)
    · rcases Nat.lt_or_eq_of_le (Nat.le_of_lt_succ hj) with hjk | rfl
      · rw [List.getElem?_set_ne fun hp => by have := hinj k (Nat.lt_succ_self k) j hj hp; omega]
        exact hset (fun a ha b hb => hinj a (by omega) b (by omega)) j hjk hl
      · rw [List.getElem?_set_self (by rw [hlen]; exact hl)]

/-- The place in the rings of dibit `j` of the `k` before a sync, oldest first. -/
def rosPlace (w k j : Nat) : Nat := (w + 2047 - (23 + k - j)) % 2048

theorem rosPlace_injOn {w k : Nat} (hk : k ≤ 66) {i j : Nat} (hi : i < k) (hj : j < k)
    (h : rosPlace w k i = rosPlace w k j) : i = j := by
  unfold rosPlace at h
  omega

/-! ## The patterns and their scores (R481) -/

/-- The eight DMR patterns as numbers, two bits for a dibit, the oldest dibit first (R481). -/
def dmrWords : List Nat :=
  [0xDFF57D75DF5D, 0x755FD7DF75F7, 0xD5D7F77FD757, 0x7F7D5DD57DFD, 0xF7FDD5DDFD55, 0x5D577F7757FF, 0xD7557F5FF7F5,
    0x7DFFD5F55D5F]

/-- The 24 dibits of such a number. -/
def dibitsOf (w : Nat) : List Dibit := (List.range 24).map (fun i => BitVec.ofNat 2 (w / 4 ^ (23 - i)))

theorem dmrPatterns_eq : Params.default.dmrPatterns = dmrWords.map dibitsOf := by decide +kernel

theorem dmrPatterns_getD {q : Nat} (hq : q < 8) : Params.default.dmrPatterns.getD q [] = dibitsOf (dmrWords.getD q 0) := by
  rw [dmrPatterns_eq, List.getD_eq_getElem?_getD, List.getD_eq_getElem?_getD, List.getElem?_map,
    List.getElem?_eq_getElem (show q < dmrWords.length from hq)]
  rfl

theorem ofNat_two_eq_iff (n : Nat) (d : Dibit) : BitVec.ofNat 2 n = d ↔ n % 4 = d.toNat := by
  rw [← BitVec.toNat_inj, BitVec.toNat_ofNat]

/-- The score of pattern `q` over the 24 newest symbols, oldest first. -/
def syncScore (h : History F32) (q : Nat) : F32 :=
  F32.sum ((List.range 24).map (fun i =>
    F32.mul (recent h (23 - i)) (if dmrWords.getD q 0 / 4 ^ (23 - i) % 4 = 1 then F32.ofNat 3 else F32.ofInt (-3))))

theorem syncSymbols_eq (h : History F32) : syncSymbols .binary32 h = (List.range 24).map (fun i => recent h (23 - i)) :=
  List.map_congr_left fun _ _ => value_eq h _

theorem dmrLevel_eq (n : Nat) :
    dmrLevel .binary32 (BitVec.ofNat 2 n) = if n % 4 = 1 then F32.ofNat 3 else F32.ofInt (-3) := by
  have h : BitVec.ofNat 2 n = 1#2 ↔ n % 4 = 1 := ofNat_two_eq_iff n 1#2
  simp only [dmrLevel, h]

theorem dmrScore_eq (h : History F32) (q : Nat) :
    dmrScore .binary32 (syncSymbols .binary32 h) (dibitsOf (dmrWords.getD q 0)) = syncScore h q := by
  unfold dmrScore syncScore
  rw [syncSymbols_eq, dibitsOf, List.zipWith_map]
  refine congrArg F32.sum ?_
  rw [List.zipWith_self]
  exact List.map_congr_left fun _ _ => congrArg (F32.mul _) (dmrLevel_eq _)

theorem dmrScores_eq (h : History F32) :
    Params.default.dmrPatterns.map (dmrScore .binary32 (syncSymbols .binary32 h)) = (List.range 8).map (syncScore h) := by
  have hwords : dmrWords = (List.range 8).map (fun q => dmrWords.getD q 0) := by decide
  rw [dmrPatterns_eq, hwords, List.map_map, List.map_map]
  refine List.map_congr_left fun q _ => ?_
  exact dmrScore_eq h q

/-- With no NaN score the best pattern is the lowest index with the greatest score, and no free value is used. -/
theorem bestPattern_isBest {h : History F32} (hnan : ∀ q < 8, (syncScore h q).isNan = false) (free : Nat) :
    IsBest (syncScore h) 8 (bestPattern Params.default free h).1 ∧ (bestPattern Params.default free h).2 = free := by
  have hany : ((List.range 8).map (syncScore h)).any F32.isNan = false := by
    rw [List.any_map, List.any_eq_false]
    exact fun q hq => by simpa using hnan q (List.mem_range.mp hq)
  have hscores : bestPattern Params.default free h =
      (bestFrom .binary32 1 0 (syncScore h 0) ((List.range' 1 7).map (syncScore h)), free) := by
    unfold bestPattern
    simp only [dmrScores_eq, hany]
    rfl
  rw [hscores]
  refine ⟨bestFrom_isBest _ ⟨Nat.one_pos, fun q hq => ?_, fun q hq => absurd hq (Nat.not_lt_zero q)⟩ ?_ ?_, rfl⟩
  · rw [Nat.lt_one_iff.mp hq]
    simp [F32.lt]
  · exact fun q hq => hnan q (by simpa using hq)
  · exact fun j hj => by simp

/-! ## Resample-on-sync as one update (R480) -/

/-- Re-digitizing, its decisions and their places written out. -/
theorem redigitize_eq (s : State) :
    let k := min 66 (s.sh.n - 24)
    let decision := fun j => redecided Params.default s s.sh (23 + k - j)
    redigitize Params.default s =
      ({ s with
          sh :=
            { s.sh with
              d := (List.range k).foldl (fun d j => d.set (rosPlace s.sh.w k j) (decision j).1) s.sh.d
              r := (List.range k).foldl (fun r j => r.set (rosPlace s.sh.w k j) (decision j).2) s.sh.r } },
        (List.range k).map decision) := by
  intro k decision
  unfold redigitize
  have hage : ∀ j, 24 + k - 1 - j = 23 + k - j := fun j => by omega
  have hplace : ∀ j, s.sh.back (23 + k - j) = rosPlace s.sh.w k j := fun j => back_eq ..
  simp only [foldl_redigitizeOne, List.nil_append, show dmrSyncLen = 24 from rfl, show rosSpan = 66 from rfl]
  simp only [show min 66 (s.sh.n - 24) = k from rfl, hage, hplace]
  rfl

theorem syncSymbols_redigitize (s : State) :
    syncSymbols .binary32 (redigitize Params.default s).1.sh = syncSymbols .binary32 s.sh := by
  rw [redigitize_eq]
  rfl

/-- A warm-start neither reads nor changes the DMR equalizer and the counter of free values. -/
theorem warmStartPath_withDmr {R : Type} (F : RealFormat R) (s : State.Of R) (e : DmrEq R) (f n : Nat) :
    warmStartPath F { s with dmr := e, free := f } n =
      ({ s with dmr := e, free := f, sl := (warmStartPath F s n).1.sl, lastWs := (warmStartPath F s n).2.code },
        (warmStartPath F s n).2) := by
  have hcheck : warmCheck F { s with dmr := e, free := f } n = warmCheck F s n := rfl
  unfold warmStartPath
  by_cases hcq : s.cq = true
  · rw [if_pos hcq, if_pos (show State.Of.cq { s with dmr := e, free := f } = true from hcq)]
    simp only [warmStartCq, hcheck]
  · rw [if_neg hcq, if_neg (show ¬ State.Of.cq { s with dmr := e, free := f } = true from hcq)]
    simp only [warmStart, hcheck]

/-- Resample-on-sync with enough symbols: the best pattern, the warm-start, the re-digitized history, the DMR equalizer. -/
theorem dmrRos_eq {s : State} (h : 24 ≤ s.sh.n) :
    let best := bestPattern Params.default s.free s.sh
    let warm := warmStartPath .binary32 s 24
    let redone := redigitize Params.default { s with sl := warm.1.sl }
    dmrRos Params.default s =
      ({ s with
          sl := warm.1.sl, lastWs := warm.2.code, free := best.2, sh := redone.1.sh
          dmr := dmrEqUpdate .binary32 { s.dmr with best := best.1, bvalid := true } (syncSymbols .binary32 s.sh)
            (Params.default.dmrPatterns.getD best.1 []) },
        ⟨true, best.1, warm.2, redone.2⟩) := by
  intro best warm redone
  have hstart := warmStartPath_withDmr .binary32 s { s.dmr with best := best.1, bvalid := true } best.2 24
  have hsync := syncSymbols_redigitize { s with sl := warm.1.sl }
  rw [dmrRos, if_neg (show ¬ s.sh.n < dmrSyncLen from Nat.not_lt.mpr h)]
  simp only [show dmrSyncLen = 24 from rfl]
  rw [hstart, ← hsync]
  rfl

/-! ## The command (R229) -/

/-- The payload of a resample-on-sync that ran (R192). -/
theorem ok_append_rosPayload (best : Nat) (r : WsResult) (dib : List (Dibit × Rel)) :
    Status.ok.code ++ rosPayload ⟨true, best, r, dib⟩ = 0#24 ++ (1#1 ++ BitVec.ofNat 3 best ++ 0#1 ++ r.code) := by
  have h : ∀ (b : BitVec 3) (c : BitVec 3),
      Status.ok.code ++ (BitVec.ofBool true ++ b ++ 0#1 ++ c : BitVec 8).setWidth 24 = 0#24 ++ (1#1 ++ b ++ 0#1 ++ c) := by
    decide
  exact h _ _

theorem exec_dmrRos_few {s : State} (h : s.sh.n < 24) :
    exec .dmrRos s = .next (State.ended { s with cfg := s.csr, free := s.free + 1 } 1 [0x00000002#32]) := by
  have hros : dmrRos Params.default s.latch = (s.latch, ⟨false, 0, .noHistory, []⟩) := if_pos h
  have hword : Status.ok.code ++ rosPayload ⟨false, 0, .noHistory, []⟩ = 0x00000002#32 := by decide
  refine congrArg Host.Outcome.next ?_
  rw [hros, State.Of.done, State.Of.respond, hword]
  rfl

/-- The history with new decisions for the `k` symbols before a sync. -/
def withDecisions (h : History F32) (k : Nat) (decision : Nat → Dibit × Rel) : History F32 :=
  { h with
    d := (List.range k).foldl (fun d j => d.set (rosPlace h.w k j) (decision j).1) h.d
    r := (List.range k).foldl (fun r j => r.set (rosPlace h.w k j) (decision j).2) h.r }

/-- `DMR_ROS` with enough symbols: the update of resample-on-sync, its event and its answer. -/
theorem exec_dmrRos {s : State} (h : 24 ≤ s.sh.n) {sl : Slicer F32} {ws : BitVec 3} {b : Nat × Nat}
    {decision : Nat → Dibit × Rel} (hb : bestPattern Params.default (s.free + 1) s.sh = b)
    (hsl : (warmStartPath .binary32 s.latch 24).1.sl = sl) (hws : (warmStartPath .binary32 s.latch 24).2.code = ws)
    (hdec : ∀ j, redecided Params.default { s.latch with sl := sl } s.sh (23 + min 66 (s.sh.n - 24) - j) = decision j) :
    exec .dmrRos s =
      .next
        { s with
          cfg := s.csr, sl := sl, lastWs := ws, free := b.2, sh := withDecisions s.sh (min 66 (s.sh.n - 24)) decision
          dmr := dmrEqUpdate .binary32 { s.dmr with best := b.1, bvalid := true } (syncSymbols .binary32 s.sh)
            (Params.default.dmrPatterns.getD b.1 [])
          ports :=
            { s.ports with
              cmd := s.ports.cmd.drop 1
              resp := s.ports.resp ++ [0#24 ++ (1#1 ++ BitVec.ofNat 3 b.1 ++ 0#1 ++ ws)]
              syncOut := s.ports.syncOut ++
                [⟨s.sync.type, s.symcount - 1, ws,
                  if s.csr.cqpsk && s.csr.stageOn .perm then s.perm.bits else 0#8,
                  some ⟨b.1, (List.range (min 66 (s.sh.n - 24))).map decision⟩⟩] } } := by
  subst hb hsl hws
  obtain rfl : (fun j => redecided Params.default { s.latch with sl := (warmStartPath .binary32 s.latch 24).1.sl } s.sh
    (23 + min 66 (s.sh.n - 24) - j)) = decision := funext hdec
  have hros := dmrRos_eq (s := s.latch) h
  refine congrArg Host.Outcome.next ?_
  rw [hros, redigitize_eq]
  rw [State.Of.done, State.Of.respond, ok_append_rosPayload]
  rfl

/-- The warm-start of the path is what its command does (R228, R475). -/
theorem exec_pathStart (s : State) :
    ∃ u, exec (if s.csr.cqpsk = true then .wstartCq 24 else .wstart 24) s = .next u ∧
      (warmStartPath .binary32 s.latch 24).1.sl = u.sl ∧ (warmStartPath .binary32 s.latch 24).2.code = u.lastWs := by
  by_cases h : s.csr.cqpsk = true
  · rw [if_pos h, exec_wstartCq (by decide), warmStartPath, if_pos (show s.latch.cq = true from h), warmStartCq_code]
    refine ⟨_, rfl, rfl, ?_⟩
    rw [warmStartCq_eq]
    rfl
  · rw [if_neg h, exec_wstart (by decide), warmStartPath, if_neg (show ¬ s.latch.cq = true from h), warmStart_code]
    refine ⟨_, rfl, rfl, ?_⟩
    rw [warmStart_eq]
    rfl

/-! ## The decisions (R456, R461) -/

/-- The decision of a path over a symbol, corrected where a permutation is locked. -/
theorem redecided_eq (s : State) (i : Nat) :
    let x := recent s.sh i
    let v := F32.sub x s.sl.center
    let d : Dibit :=
      if s.cfg.cqpsk = true then
        (if F32.le F32.zero v = true then (if F32.lt (F32.ofNat 2) v = true then 1#2 else 0#2)
        else (if F32.lt v (F32.ofInt (-2)) = true then 3#2 else 2#2))
      else
        (if F32.le s.sl.center x = true then (if F32.lt s.sl.umid x = true then 1#2 else 0#2)
        else (if F32.lt x s.sl.lmid = true then 3#2 else 2#2))
    redecided Params.default s s.sh i =
      (if s.cfg.cqpsk = true ∧ s.cfg.stageOn .perm = true ∧ s.permLock = true then s.perm.apply d else d,
        if s.cfg.cqpsk = true then relCq Params.default s.sl x else relFm Params.default s.sl x) := by
  intro x v d
  have hx : s.sh.value Params.default.real i = x := value_eq s.sh i
  have hd : s.dibitOf Params.default.real x = d := rfl
  have hc : s.correct d =
      if s.cfg.cqpsk = true ∧ s.cfg.stageOn .perm = true ∧ s.permLock = true then s.perm.apply d else d := by
    simp only [State.Of.correct, State.Of.permOn, State.Of.cq, State.Of.on, Bool.and_eq_true, and_assoc]
  rw [redecided, hx, hd, hc]
  rfl

/-- Settles O27: the command as one update, and of it the best pattern, the warm-start, and the decisions at their places. -/
theorem dmrRosCommand : Obligations.DmrRosCommand := by
  unfold Obligations.DmrRosCommand
  refine ⟨fun s h => exec_dmrRos_few h, fun s h => ?_⟩
  intro value patterns score k place
  have hexec := @exec_dmrRos s h
  have hlt := Invariant.bestPattern_lt (s.free + 1) s.sh
  have hbest := fun hnan => (@bestPattern_isBest s.sh hnan (s.free + 1)).1
  obtain ⟨u, hu, hsl, hws⟩ := exec_pathStart s
  generalize bestPattern Params.default (s.free + 1) s.sh = b at hexec hlt hbest
  generalize (warmStartPath .binary32 s.latch 24).1.sl = sl at hexec hsl
  generalize (warmStartPath .binary32 s.latch 24).2.code = ws at hexec hws
  generalize hdec : (fun j => redecided Params.default { s.latch with sl := sl } s.sh (23 + k - j)) = decision
  refine ⟨_, b.1, (List.range k).map decision, hexec rfl rfl rfl (congrFun hdec), hlt, fun hnan => (hbest hnan).2,
    ⟨u, hu, hsl, hws⟩, by simp, ?_, ?_, rfl, rfl, rfl, rfl, rfl, rfl, rfl⟩
  · intro j hj x v d dout r
    have hj' : decision j = (dout, r) := (congrFun hdec j).symm.trans (redecided_eq { s.latch with sl := sl } (23 + k - j))
    refine ⟨?_, fun hd => ?_, fun hr => ?_⟩
    · rw [List.getElem?_map, List.getElem?_range hj, ← hj']
      rfl
    · have hset := (getElem?_foldl_set (rosPlace s.sh.w k) (fun j => (decision j).1) k s.sh.d).2
        (fun a ha b hb => rosPlace_injOn (Nat.min_le_left ..) ha hb) j hj (by rw [hd]; exact Nat.mod_lt _ (by decide))
      rw [hj'] at hset
      exact hset
    · have hset := (getElem?_foldl_set (rosPlace s.sh.w k) (fun j => (decision j).2) k s.sh.r).2
        (fun a ha b hb => rosPlace_injOn (Nat.min_le_left ..) ha hb) j hj (by rw [hr]; exact Nat.mod_lt _ (by decide))
      rw [hj'] at hset
      exact hset
  · exact fun m hm => ⟨(getElem?_foldl_set (rosPlace s.sh.w k) (fun j => (decision j).1) k s.sh.d).1 m hm,
      (getElem?_foldl_set (rosPlace s.sh.w k) (fun j => (decision j).2) k s.sh.r).1 m hm⟩

end Sys2Proof.Proofs.Slicing
end

section
/-! PROOF. The DMR equalizer (R486), and the warm-start and resample-on-sync of a detection (R470, R480, R512); O28, O53. -/

namespace Sys2Proof.Proofs.Slicing
open Sys2Proof Sys2Proof.Machine

/-! ## The DMR equalizer (R486) -/

/-- The symbols of a sync at the places where pattern `q` has the level `d`. -/
theorem levelSymbols_eq (h : History F32) (q : Nat) (d : Dibit) :
    levelSymbols (syncSymbols .binary32 h) (dibitsOf (dmrWords.getD q 0)) d =
      ((List.range 24).filter (fun i => decide (dmrWords.getD q 0 / 4 ^ (23 - i) % 4 = d.toNat))).map
        (fun i => recent h (23 - i)) := by
  have hzip : (List.range 24).zip (List.range 24) = (List.range 24).map (fun i => (i, i)) := by decide
  rw [levelSymbols, syncSymbols_eq, dibitsOf, List.zip_map, hzip, List.map_map, List.filter_map, List.map_map]
  refine congrArg₂ List.map rfl (List.filter_congr fun i _ => ?_)
  rw [Bool.eq_iff_iff, decide_eq_true_eq, ← ofNat_two_eq_iff]
  exact beq_iff_eq

/-- The update of the DMR equalizer, its constants written out. -/
theorem dmrEqUpdate_eq (e : DmrEq F32) (xs : List F32) (pattern : List Dibit) (pos neg : List F32)
    (hpos : levelSymbols xs pattern 1#2 = pos) (hneg : levelSymbols xs pattern 3#2 = neg) :
    let mp := F32.mean pos
    let mn := F32.mean neg
    let bt := F32.div (F32.add mp mn) (F32.ofNat 2)
    let gt :=
      if F32.lt F32.zero (F32.sub mp mn) = true then F32.div (F32.ofNat 3) (F32.div (F32.sub mp mn) (F32.ofNat 2))
      else e.gain
    let balance :=
      if e.init = true then F32.add e.balance (F32.mul (F32.ofRat 15 100) (F32.sub bt e.balance)) else bt
    let gain := if e.init = true then F32.add e.gain (F32.mul (F32.ofRat 15 100) (F32.sub gt e.gain)) else gt
    dmrEqUpdate .binary32 e xs pattern =
      { e with
        balance := F32.clamp balance (F32.neg (F32.ofRat 1047 1000)) (F32.ofRat 1047 1000)
        gain := F32.clamp gain F32.one (F32.ofRat 125 100)
        init := true } := by
  subst hpos hneg
  simp only [dmrEqUpdate, midpoint_eq, dmrBalanceMax, dmrGainMin, dmrGainMax, dmrLoopGain, RealFormat.ema]

/-- Settles O28: the targets of the best pattern's levels, and what a clamp leaves. -/
theorem dmrEqualizerClamped : Obligations.DmrEqualizerClamped := by
  unfold Obligations.DmrEqualizerClamped
  intro s h patterns
  have hexec := @exec_dmrRos s h
  have hlt := Invariant.bestPattern_lt (s.free + 1) s.sh
  generalize bestPattern Params.default (s.free + 1) s.sh = b at hexec hlt
  have hbalance : F32.lt (F32.ofRat 1047 1000) (F32.neg (F32.ofRat 1047 1000)) = false := by decide +kernel
  have hgain : F32.lt (F32.ofRat 125 100) F32.one = false := by decide +kernel
  have hupdate := dmrEqUpdate_eq { s.dmr with best := b.1, bvalid := true } (syncSymbols .binary32 s.sh)
    (Params.default.dmrPatterns.getD b.1 []) _ _ (by rw [dmrPatterns_getD hlt, levelSymbols_eq])
    (by rw [dmrPatterns_getD hlt, levelSymbols_eq])
  refine ⟨_, hexec rfl rfl rfl (fun _ => rfl), ?_⟩
  rw [hupdate]
  refine ⟨Stages.not_clamp_lt hbalance, Stages.not_lt_clamp hbalance, Stages.not_clamp_lt hgain,
    Stages.not_lt_clamp hgain, ?_⟩
  simp only [mean_eq]
  exact ⟨rfl, rfl⟩

/-! ## The warm-start of a detection (R470, R475) -/

/-- The slicer after a successful warm-start of the active path. -/
theorem warmed_eq (s : State) (mp mn : F32) :
    (if s.cq = true then s.sl.warmCq .binary32 mp mn
      else s.sl.warm .binary32 ((s.cfg.get .slMsize).toNat % 2 ^ 11) mp mn) =
      if s.cq = true then Slicer.derive .binary32 { s.sl with center := F32.div (F32.add mp mn) (F32.ofNat 2) }
      else
        Slicer.derive .binary32
          { s.sl with
            max := mp, min := mn, center := F32.div (F32.add mp mn) (F32.ofNat 2)
            maxbuf := prefilled ((s.cfg.get .slMsize).toNat % 2 ^ 11) mp s.sl.maxbuf
            minbuf := prefilled ((s.cfg.get .slMsize).toNat % 2 ^ 11) mn s.sl.minbuf
            midx := 0, fill := (s.cfg.get .slMsize).toNat % 2 ^ 11 } := by
  rw [warmCq_eq, warm_eq]

/-- The warm-start of the active path, its result by the window. -/
theorem warmStartPath_eq (s : State) (n : Nat) :
    (warmStartPath .binary32 s n).1 =
        { s with
          lastWs := wstartCode (s.on .ws) n s.sh.n (window s.sh n)
          sl :=
            if wstartCode (s.on .ws) n s.sh.n (window s.sh n) = 0#3 then
              if s.cq = true then
                s.sl.warmCq .binary32 (F32.mean (positives (window s.sh n))) (F32.mean (negatives (window s.sh n)))
              else
                s.sl.warm .binary32 ((s.cfg.get .slMsize).toNat % 2 ^ 11) (F32.mean (positives (window s.sh n)))
                  (F32.mean (negatives (window s.sh n)))
            else s.sl } ∧
      (warmStartPath .binary32 s n).2.code = wstartCode (s.on .ws) n s.sh.n (window s.sh n) := by
  unfold warmStartPath
  by_cases hcq : s.cq = true
  · simp only [if_pos hcq]
    exact ⟨warmStartCq_eq s n, warmStartCq_code s n⟩
  · simp only [if_neg hcq]
    refine ⟨(warmStart_eq s n).trans ?_, warmStart_code s n⟩
    rw [field_slMsize]

/-- STAGE.WS with its stage on: the warm-start of the detection's length, its result recorded in the event's field. -/
theorem stageWs_eq {s : State} (h : s.on .ws = true) {r : BitVec 3} {mp mn : F32}
    (hr : spanCode s.work.syncLen s.sh.n (window s.sh s.work.syncLen) = r)
    (hmp : F32.mean (positives (window s.sh s.work.syncLen)) = mp)
    (hmn : F32.mean (negatives (window s.sh s.work.syncLen)) = mn) :
    stageWs .binary32 s =
      { s with
        sl :=
          if r = 0#3 then
            if s.cq = true then s.sl.warmCq .binary32 mp mn
            else s.sl.warm .binary32 ((s.cfg.get .slMsize).toNat % 2 ^ 11) mp mn
          else s.sl
        lastWs := r
        work := { s.work with ws := r } } := by
  subst hr hmp hmn
  obtain ⟨hstate, hcode⟩ := warmStartPath_eq s s.work.syncLen
  have hgate : wstartCode (s.on .ws) s.work.syncLen s.sh.n (window s.sh s.work.syncLen) =
      spanCode s.work.syncLen s.sh.n (window s.sh s.work.syncLen) := by rw [wstartCode, h]; rfl
  rw [stageWs, if_pos h]
  dsimp only
  rw [hcode, hstate, hgate]

/-! ## The resample-on-sync of a detection (R480) -/

/-- With no NaN score the best pattern uses no free value, and does not depend on their counter. -/
theorem bestPattern_free {h : History F32}
    (hnan : ∀ p ∈ Params.default.dmrPatterns, (dmrScore .binary32 (syncSymbols .binary32 h) p).isNan = false)
    (free : Nat) : bestPattern Params.default free h = ((bestPattern Params.default 0 h).1, free) := by
  have hany : (Params.default.dmrPatterns.map (dmrScore .binary32 (syncSymbols .binary32 h))).any F32.isNan = false := by
    rw [List.any_map, List.any_eq_false]
    exact fun p hp => by simpa using hnan p hp
  unfold bestPattern
  simp only [hany, Bool.false_eq_true, if_false]
  split <;> rfl

/-- A warm-start reads the latched configuration alone. -/
theorem warmStartPath_latch {R : Type} (F : RealFormat R) (s : State.Of R) (n : Nat) :
    (warmStartPath F (State.Of.latch { s with csr := s.cfg }) n).1.sl = (warmStartPath F s n).1.sl ∧
      (warmStartPath F (State.Of.latch { s with csr := s.cfg }) n).2.code = (warmStartPath F s n).2.code := by
  have hcheck : warmCheck F (State.Of.latch { s with csr := s.cfg }) n = warmCheck F s n := rfl
  have hcq : (State.Of.latch { s with csr := s.cfg }).cq = s.cq := rfl
  unfold warmStartPath
  rw [hcq]
  split <;> exact ⟨rfl, rfl⟩

/-- Settles O53: the warm-start of a detection as that of the commands, and resample-on-sync as that of `DMR_ROS`. -/
theorem detectionStages : Obligations.DetectionStages := by
  unfold Obligations.DetectionStages
  refine ⟨?_, fun s hon h => ?_, fun s hon h => ?_⟩
  · intro s hon n win pos neg mp mn ms r center hi lo warm filled
    refine congrArg Host.Outcome.next ?_
    have hmp : F32.mean (positives (window s.sh n)) = mp := mean_eq _
    have hmn : F32.mean (negatives (window s.sh n)) = mn := mean_eq _
    have hcode : spanCode n s.sh.n (window s.sh n) = r := by
      unfold spanCode
      rw [hmp, hmn]
      rfl
    rw [stageWs_eq hon hcode hmp hmn, warmed_eq, derive_eq, derive_eq]
    have hsl : ∀ (c : Prop) [Decidable c] (a b : Slicer F32), (if c then a else b) = if ¬ c then b else a :=
      fun c _ a b => by by_cases hc : c <;> simp [hc]
    rw [hsl (r = 0#3)]
    unfold filled warm hi lo
    by_cases hcq : s.cfg.cqpsk = true
    · simp only [hcq, State.Of.cq, if_true]
      rfl
    · simp only [hcq, State.Of.cq]
      rfl
  · have hros : dmrRos Params.default s = (s, ⟨false, 0, .noHistory, []⟩) := if_pos h
    refine congrArg Host.Outcome.next ?_
    rw [stageDmrRos, if_pos hon, hros]
    rfl
  · have hlt := Invariant.bestPattern_lt s.free s.sh
    have hlatch := warmStartPath_latch .binary32 s 24
    have hexec := @exec_dmrRos { s with csr := s.cfg } h
    have hstage : exec .stageDmrRos s = .next _ := congrArg Host.Outcome.next (if_pos hon)
    rw [dmrRos_eq h, redigitize_eq] at hstage
    generalize (warmStartPath .binary32 s 24).1.sl = sl at hlatch hstage
    generalize hws : (warmStartPath .binary32 s 24).2 = ws at hlatch hstage
    refine ⟨_, (bestPattern Params.default s.free s.sh).1, _, hstage, hlt, by simp, rfl, rfl, rfl, rfl, rfl, fun hnan => ?_⟩
    refine ⟨_, _, hexec (bestPattern_free hnan _) hlatch.1 hlatch.2 (fun _ => rfl), rfl, ?_, rfl, rfl, rfl, ?_, rfl, ?_⟩
    · rw [bestPattern_free hnan s.free]
      rfl
    · rw [bestPattern_free hnan s.free]
    · rw [bestPattern_free hnan s.free]

end Sys2Proof.Proofs.Slicing
end

section
/-! PROOF. Rounding to nearest, ties to even (R12): what `rnd` makes of a magnitude given as a floor with a sticky tail. -/

namespace Sys2Proof.Proofs.Rounding
open Sys2Proof Sys2Proof.Machine

/-! ## The parts of a datum given by its low 31 bits -/

/-- The datum of a sign and 31 further bits. -/
def ofBits (neg : Bool) (b : Nat) : F32 := ⟨BitVec.ofNat 32 (if neg then b + 0x80000000 else b)⟩

theorem ofBits_eq_packed (neg : Bool) (b : Nat) : ofBits neg b = Commands.packed neg (b / 2 ^ 23) (b % 2 ^ 23) := by
  have hb : (b / 2 ^ 23) <<< 23 + b % 2 ^ 23 = b := by rw [Nat.shiftLeft_eq]; omega
  rw [ofBits, Commands.packed, hb]

theorem ofBits_isNeg (neg : Bool) {b : Nat} (hb : b < 2 ^ 31) : (ofBits neg b).isNeg = neg := by
  rw [ofBits_eq_packed, Commands.packed_isNeg neg (by omega) (by omega)]

theorem ofBits_expo (neg : Bool) {b : Nat} (hb : b < 2 ^ 31) : (ofBits neg b).expo = b / 2 ^ 23 := by
  rw [ofBits_eq_packed, Commands.packed_expo neg (by omega) (by omega)]

theorem ofBits_frac (neg : Bool) (b : Nat) : (ofBits neg b).frac = b % 2 ^ 23 := by
  rw [ofBits_eq_packed, Commands.packed_frac neg (by omega)]

theorem ofBits_low (neg : Bool) {b : Nat} (hb : b % 2 = 0) : (ofBits neg b).bits.getLsbD 0 = false := by
  simp only [ofBits, BitVec.getLsbD_ofNat, Nat.testBit_zero, Bool.and_eq_false_iff, decide_eq_false_iff_not]
  right
  split <;> omega

/-- The magnitude of the datum whose bits are the sum that `rnd` forms. -/
theorem ofBits_mag (neg : Bool) {d q : Nat} (hq : q ≤ 2 ^ 24) (hd : d = 0 ∨ 2 ^ 23 ≤ q) (hfin : d * 2 ^ 23 + q < 0x7F800000) :
    (ofBits neg (d * 2 ^ 23 + q)).mag = q * 2 ^ d := by
  rw [F32.mag, ofBits_expo neg (by omega), ofBits_frac]
  rcases Nat.lt_or_ge q (2 ^ 23) with hlow | hhigh
  · obtain rfl : d = 0 := by omega
    rw [if_pos (by omega)]
    omega
  · rcases Nat.lt_or_ge q (2 ^ 24) with hlt | hge
    · have hexpo : (d * 2 ^ 23 + q) / 2 ^ 23 = d + 1 := by omega
      have hfrac : (d * 2 ^ 23 + q) % 2 ^ 23 + 8388608 = q := by omega
      rw [hexpo, hfrac, if_neg (Nat.succ_ne_zero d), Nat.add_sub_cancel, Nat.shiftLeft_eq]
    · obtain rfl : q = 2 ^ 24 := by omega
      have hexpo : (d * 2 ^ 23 + 2 ^ 24) / 2 ^ 23 = d + 1 + 1 := by omega
      have hfrac : (d * 2 ^ 23 + 2 ^ 24) % 2 ^ 23 + 8388608 = 2 ^ 23 := by omega
      rw [hexpo, hfrac, if_neg (Nat.succ_ne_zero _), Nat.add_sub_cancel, Nat.shiftLeft_eq, Nat.pow_succ 2 d]
      omega

/-! ## The grid of the magnitudes -/

theorem frac_lt (z : F32) : z.frac < 2 ^ 23 := (z.bits.extractLsb' 0 23).isLt

theorem expo_lt (z : F32) : z.expo < 2 ^ 8 := (z.bits.extractLsb' 23 8).isLt

/-- No magnitude lies between two neighbours `q·2^d` and `(q+1)·2^d` of the grid. -/
theorem mag_grid (z : F32) {d q : Nat} (hq : d = 0 ∨ 2 ^ 23 ≤ q) : z.mag ≤ q * 2 ^ d ∨ (q + 1) * 2 ^ d ≤ z.mag := by
  have hf := frac_lt z
  rcases hq with rfl | hq
  · omega
  · rw [F32.mag]
    split
    · left
      calc z.frac ≤ q * 1 := by omega
        _ ≤ q * 2 ^ d := Nat.mul_le_mul_left _ (Nat.one_le_two_pow)
    · rw [Nat.shiftLeft_eq]
      rcases Nat.lt_or_ge (z.expo - 1) d with he | he
      · left
        have hpow : 2 ^ (z.expo - 1 + 1) ≤ 2 ^ d := Nat.pow_le_pow_right (by decide) he
        calc (z.frac + 8388608) * 2 ^ (z.expo - 1) ≤ 2 ^ 24 * 2 ^ (z.expo - 1) := Nat.mul_le_mul_right _ (by omega)
          _ = 2 ^ 23 * 2 ^ (z.expo - 1 + 1) := by rw [Nat.pow_succ 2 (z.expo - 1)]; omega
          _ ≤ q * 2 ^ d := Nat.mul_le_mul hq hpow
      · obtain ⟨j, hj⟩ := Nat.le.dest he
        have hsplit : (z.frac + 8388608) * 2 ^ (z.expo - 1) = (z.frac + 8388608) * 2 ^ j * 2 ^ d := by
          rw [← hj, Nat.pow_add, Nat.mul_assoc, Nat.mul_comm (2 ^ j)]
        rw [hsplit]
        rcases Nat.lt_or_ge q ((z.frac + 8388608) * 2 ^ j) with h | h
        · exact .inr (Nat.mul_le_mul_right _ h)
        · exact .inl (Nat.mul_le_mul_right _ h)

/-! ## Rounding an integer with a tail -/

/-- `X` is `n` with a tail below 1: none where `sticky` is false; with one, at least one bit is dropped. -/
structure Tailed (n r : Nat) (sticky : Bool) (X : ℝ) : Prop where
  exact_of : sticky = false → X = n
  tail : sticky = true → (n : ℝ) < X ∧ X < n + 1 ∧ 1 ≤ r

/-- Rounding takes the neighbour that is not farther, and the even one of two as near. -/
theorem roundShift_spec {n r : Nat} {sticky : Bool} {X : ℝ} (h : Tailed n r sticky X) :
    let q := n / 2 ^ r
    ((q : ℝ) * 2 ^ r ≤ X ∧ X ≤ (q + 1) * 2 ^ r) ∧
      ((F32.roundShift n r sticky = q ∧ 2 * X ≤ (2 * q + 1) * 2 ^ r) ∨
        (F32.roundShift n r sticky = q + 1 ∧ (2 * q + 1) * 2 ^ r ≤ 2 * X)) ∧
      (2 * X = (2 * q + 1) * 2 ^ r → F32.roundShift n r sticky % 2 = 0) := by
  intro q
  have hdiv : n >>> r = q := Nat.shiftRight_eq_div_pow n r
  obtain ⟨P, hP⟩ : ∃ P, P = 2 ^ r := ⟨_, rfl⟩
  have hPpos : 0 < P := hP ▸ Nat.two_pow_pos r
  have hPreal : (2 : ℝ) ^ r = (P : ℝ) := by rw [hP]; push_cast; rfl
  have heven : 1 ≤ r → P % 2 = 0 := fun hr => by
    obtain ⟨j, rfl⟩ := Nat.exists_eq_add_of_le hr
    rw [hP, Nat.add_comm, Nat.pow_succ]
    omega
  obtain ⟨a, ha⟩ : ∃ a, n = q * P + a := ⟨n % 2 ^ r, by rw [hP]; exact (Nat.div_add_mod' n (2 ^ r)).symm⟩
  have halt : a < P := by
    have : n < (q + 1) * P := by rw [hP]; exact Nat.lt_mul_of_div_lt (Nat.lt_succ_self _) (Nat.two_pow_pos r)
    rw [Nat.add_mul] at this
    omega
  have hround : F32.roundShift n r sticky =
      if P < 2 * a ∨ (2 * a = P ∧ (sticky = true ∨ q % 2 = 1)) then q + 1 else q := by
    have hrest : 2 * (n - q <<< r) = 2 * a := by rw [Nat.shiftLeft_eq, ← hP]; omega
    simp only [F32.roundShift, hdiv, hrest, ← hP, Bool.or_eq_true, Bool.and_eq_true, beq_iff_eq, decide_eq_true_eq]
  have hn : (n : ℝ) = q * P + a := by exact_mod_cast ha
  rw [hPreal, hround]
  have haR : (a : ℝ) + 1 ≤ P := by exact_mod_cast halt
  have ha0 : (0 : ℝ) ≤ a := Nat.cast_nonneg a
  cases hs : sticky
  · have hX := h.exact_of hs
    rw [hn] at hX
    simp only [Bool.false_eq_true, false_or]
    refine ⟨⟨by linarith, by linarith⟩, ?_, fun htie => ?_⟩
    · split
      · next hup =>
        have : (P : ℝ) ≤ 2 * a := by exact_mod_cast (by omega : P ≤ 2 * a)
        exact .inr ⟨rfl, by linarith⟩
      · next hdown =>
        have : 2 * (a : ℝ) ≤ P := by exact_mod_cast (by omega : 2 * a ≤ P)
        exact .inl ⟨rfl, by linarith⟩
    · have hmid : 2 * (a : ℝ) = P := by linarith
      have hmid' : 2 * a = P := by exact_mod_cast hmid
      split <;> omega
  · obtain ⟨hlo, hhi, hr⟩ := h.tail hs
    have hP2 := heven hr
    rw [hn] at hlo hhi
    simp only [true_or, and_true]
    refine ⟨⟨by linarith, by linarith⟩, ?_, fun htie => ?_⟩
    · split
      · next hup =>
        have : (P : ℝ) ≤ 2 * a := by exact_mod_cast (by omega : P ≤ 2 * a)
        exact .inr ⟨rfl, by linarith⟩
      · next hdown =>
        have : 2 * (a : ℝ) + 2 ≤ P := by exact_mod_cast (by omega : 2 * a + 2 ≤ P)
        exact .inl ⟨rfl, by linarith⟩
    · have hbelow : 2 * (a : ℝ) < P := by linarith
      have habove : (P : ℝ) < 2 * a + 2 := by linarith
      have hbelow' : 2 * a < P := by exact_mod_cast hbelow
      have habove' : P < 2 * a + 2 := by exact_mod_cast habove
      omega

/-! ## `rnd` -/

theorem dropBits_spec (n k : Nat) :
    k ≤ F32.dropBits n k ∧ n < 2 ^ (F32.dropBits n k + 24) ∧
      (F32.dropBits n k = k ∨ 2 ^ (F32.dropBits n k + 23) ≤ n) := by
  have hlog : n < 2 ^ (Nat.log2 n + 1) := Nat.lt_log2_self
  have hdrop : F32.dropBits n k = max k (Nat.log2 n + 1 - 24) := rfl
  refine ⟨by omega, hlog.trans_le (Nat.pow_le_pow_right (by decide) (by omega)), ?_⟩
  rcases Nat.le_total (Nat.log2 n + 1 - 24) k with hk | hk
  · exact .inl (by omega)
  · rcases Nat.lt_or_ge k (Nat.log2 n + 1 - 24) with hlt | hge
    · right
      have hne : n ≠ 0 := by
        rintro rfl
        simp [Nat.log2_zero] at hlt
      calc 2 ^ (F32.dropBits n k + 23) = 2 ^ Nat.log2 n := by congr 1; omega
        _ ≤ n := Nat.log2_self_le hne
    · exact .inl (by omega)

/-- The magnitude `ρ` is nearest to `V` among those of the finite data, and `even` holds where another is as near. -/
def Nearest (ρ : Nat) (even : Prop) (V : ℝ) : Prop :=
  ∀ z : F32, z.isFinite = true →
    (ρ < z.mag → 2 * V ≤ ρ + z.mag) ∧ (z.mag < ρ → (ρ : ℝ) + z.mag ≤ 2 * V) ∧
      (z.mag ≠ ρ → (ρ : ℝ) + z.mag = 2 * V → even)

theorem infinity_not_finite (neg : Bool) : (F32.infinity neg).isFinite = false := by
  cases neg <;> decide

theorem rnd_eq (neg : Bool) (n k : Nat) (sticky : Bool) :
    let b := (F32.dropBits n k - k) * 2 ^ 23 + F32.roundShift n (F32.dropBits n k) sticky
    F32.rnd neg n k sticky = if 0x7F800000 ≤ b then F32.infinity neg else ofBits neg b := by
  intro b
  simp only [F32.rnd, Nat.shiftLeft_eq]
  rfl

/-- A finite `rnd` has the sign it is given, and the magnitude nearest to the value that `n`, `k` and the tail stand for. -/
theorem rnd_nearest (neg : Bool) {n k : Nat} {sticky : Bool} {V : ℝ}
    (h : Tailed n (F32.dropBits n k) sticky (V * 2 ^ k)) (hfin : (F32.rnd neg n k sticky).isFinite = true) :
    (F32.rnd neg n k sticky).isNeg = neg ∧
      Nearest (F32.rnd neg n k sticky).mag ((F32.rnd neg n k sticky).bits.getLsbD 0 = false) V := by
  obtain ⟨hk, hlt, hnorm⟩ := dropBits_spec n k
  obtain ⟨⟨hlo, hhi⟩, hround, heven⟩ := roundShift_spec h
  have hrnd := rnd_eq neg n k sticky
  dsimp only at hlo hhi hround heven hrnd
  generalize hr : F32.dropBits n k = r at *
  generalize hQ : F32.roundShift n r sticky = Q at *
  obtain ⟨d, rfl⟩ := Nat.exists_eq_add_of_le hk
  rw [Nat.add_sub_cancel_left] at hrnd
  have hb : ¬ 0x7F800000 ≤ d * 2 ^ 23 + Q := by
    intro hover
    rw [hrnd, if_pos hover, infinity_not_finite] at hfin
    exact absurd hfin (by decide)
  rw [hrnd, if_neg hb]
  set q := n / 2 ^ (k + d) with hq
  have hqlt : q < 2 ^ 24 := by
    rw [hq, Nat.div_lt_iff_lt_mul (Nat.two_pow_pos _), ← Nat.pow_add, Nat.add_comm 24]
    exact hlt
  have hqd : d = 0 ∨ 2 ^ 23 ≤ q := by
    refine hnorm.imp (fun h => by omega) fun h => ?_
    rw [hq, Nat.le_div_iff_mul_le (Nat.two_pow_pos _), ← Nat.pow_add, Nat.add_comm 23]
    exact h
  have hQcases : Q = q ∨ Q = q + 1 := hround.imp (·.1) (·.1)
  have hmag : (ofBits neg (d * 2 ^ 23 + Q)).mag = Q * 2 ^ d :=
    ofBits_mag neg (by omega) (hqd.imp id fun h => by omega) (by omega)
  refine ⟨ofBits_isNeg neg (by omega), fun z _ => ?_⟩
  have hgrid := mag_grid z hqd
  rw [hmag]
  have hpow : (2 : ℝ) ^ (k + d) = 2 ^ k * 2 ^ d := pow_add ..
  have hpos : (0 : ℝ) < 2 ^ k := by positivity
  rw [hpow] at hlo hhi hround heven
  -- the bounds on V, the factor 2^k taken out
  have hlo' : (q : ℝ) * 2 ^ d ≤ V := le_of_mul_le_mul_right (by linarith) hpos
  have hhi' : V ≤ (q + 1) * 2 ^ d := le_of_mul_le_mul_right (by linarith) hpos
  have hmid : (Q = q ∧ 2 * V ≤ (2 * q + 1) * 2 ^ d) ∨ (Q = q + 1 ∧ (2 * q + 1) * 2 ^ d ≤ 2 * V) :=
    hround.imp (And.imp id fun h => le_of_mul_le_mul_right (by linarith) hpos)
      (And.imp id fun h => le_of_mul_le_mul_right (by linarith) hpos)
  have htie : 2 * V = (2 * q + 1) * 2 ^ d → Q % 2 = 0 := fun hV => heven (by rw [← mul_assoc, hV]; ring)
  have hlow : Q % 2 = 0 → (ofBits neg (d * 2 ^ 23 + Q)).bits.getLsbD 0 = false := fun h => ofBits_low neg (by omega)
  generalize z.mag = m at hgrid
  have hm : (m : ℝ) ≤ q * 2 ^ d ∨ ((q : ℝ) + 1) * 2 ^ d ≤ m := hgrid.imp (fun h => by exact_mod_cast h) fun h => by exact_mod_cast h
  rcases hmid with ⟨rfl, hV⟩ | ⟨rfl, hV⟩
  · refine ⟨fun hlt => ?_, fun hlt => ?_, fun hne heq => ?_⟩
    · have : (q : ℝ) * 2 ^ d < m := by exact_mod_cast hlt
      push_cast
      rcases hm with hm | hm <;> linarith
    · have : (m : ℝ) < q * 2 ^ d := by exact_mod_cast hlt
      push_cast
      linarith
    · push_cast at heq
      rcases hgrid with hle | hge
      · have : (m : ℝ) < q * 2 ^ d := by exact_mod_cast lt_of_le_of_ne hle hne
        linarith
      · have : ((q : ℝ) + 1) * 2 ^ d ≤ m := by exact_mod_cast hge
        exact hlow (htie (by linarith))
  · refine ⟨fun hlt => ?_, fun hlt => ?_, fun hne heq => ?_⟩
    · have : ((q : ℝ) + 1) * 2 ^ d < m := by exact_mod_cast hlt
      push_cast
      linarith
    · have : (m : ℝ) < (q + 1) * 2 ^ d := by exact_mod_cast hlt
      push_cast
      rcases hm with hm | hm <;> linarith
    · push_cast at heq
      rcases hgrid with hle | hge
      · have : (m : ℝ) ≤ q * 2 ^ d := by exact_mod_cast hle
        exact hlow (htie (by linarith))
      · have : ((q : ℝ) + 1) * 2 ^ d < m := by exact_mod_cast lt_of_le_of_ne hge (Ne.symm hne)
        linarith

end Sys2Proof.Proofs.Rounding
end

section
/-! PROOF. Sum, difference, product, quotient and square root of finite data are the data nearest to the exact result (R12);
O60. -/

namespace Sys2Proof.Proofs.Rounding
open Sys2Proof Sys2Proof.Machine

/-! ## From magnitudes to signed values -/

/-- A signed magnitude is no nearer to `V` than the nearest magnitude. -/
theorem nearest_dist_le {ρ : Nat} {even : Prop} {V t : ℝ} (h : Nearest ρ even V) (hV : 0 ≤ V) {z : F32}
    (hz : z.isFinite = true) (ht : t = z.mag ∨ t = -(z.mag : ℝ)) :
    |(ρ : ℝ) - V| ≤ |t - V| ∧ (|(ρ : ℝ) - V| = |t - V| → t ≠ ρ → even) := by
  have hmag : (0 : ℝ) ≤ z.mag := Nat.cast_nonneg _
  have hpos (ht : t = z.mag) : |(ρ : ℝ) - V| ≤ |t - V| ∧ (|(ρ : ℝ) - V| = |t - V| → t ≠ ρ → even) := by
    subst ht
    obtain ⟨hup, hdown, htie⟩ := h z hz
    refine ⟨?_, fun heq hne => ?_⟩
    · rcases lt_trichotomy ρ z.mag with hlt | heq | hgt
      · have := hup hlt
        have hlt' : (ρ : ℝ) < z.mag := by exact_mod_cast hlt
        rw [abs_of_nonneg (show (0 : ℝ) ≤ z.mag - V by linarith)]
        exact abs_le.mpr ⟨by linarith, by linarith⟩
      · rw [heq]
      · have := hdown hgt
        have hgt' : (z.mag : ℝ) < ρ := by exact_mod_cast hgt
        rw [abs_of_nonpos (show (z.mag : ℝ) - V ≤ 0 by linarith)]
        exact abs_le.mpr ⟨by linarith, by linarith⟩
    · rcases abs_eq_abs.mp heq with hsame | hopp
      · exact absurd (by linarith) hne
      · exact htie (fun hm => hne (by rw [hm])) (by linarith)
  rcases ht with ht | ht
  · exact hpos ht
  · rcases hmag.eq_or_lt with hzero | hlt
    · exact hpos (by rw [ht, ← hzero, neg_zero])
    · have hnear : |(ρ : ℝ) - V| ≤ V := by
        obtain ⟨-, hdown, -⟩ := h F32.zero (by decide)
        rcases Nat.eq_zero_or_pos ρ with rfl | hρ
        · rw [Nat.cast_zero, zero_sub, abs_neg, abs_of_nonneg hV]
        · have hsum := hdown (show F32.zero.mag < ρ from hρ)
          have hz0 : ((F32.zero.mag : Nat) : ℝ) = 0 := by rw [show F32.zero.mag = 0 by decide, Nat.cast_zero]
          rw [hz0, add_zero] at hsum
          have hρ0 : (0 : ℝ) ≤ ρ := Nat.cast_nonneg _
          exact abs_le.mpr ⟨by linarith, by linarith⟩
      have hfar : |t - V| = z.mag + V := by
        rw [ht, abs_of_nonpos (by linarith)]
        ring
      exact ⟨by linarith, fun heq => absurd heq (by linarith)⟩

theorem units_eq (x : F32) : (x.units : ℝ) = (if x.isNeg then -1 else 1) * x.mag := by
  unfold F32.units
  split <;> simp

/-- What the statement asks of a result: nearest to `num/den`, and even where another datum is as near. -/
def NearestEven (r : F32) (num den : Int) : Prop :=
  r.isFinite = true → ∀ z : F32, z.isFinite = true →
    (r.units * den - num).natAbs ≤ (z.units * den - num).natAbs ∧
      ((r.units * den - num).natAbs = (z.units * den - num).natAbs → z.units ≠ r.units → r.bits.getLsbD 0 = false)

theorem natAbs_le_iff (a b : Int) : a.natAbs ≤ b.natAbs ↔ |(a : ℝ)| ≤ |(b : ℝ)| := by
  rw [← Int.cast_abs, ← Int.cast_abs, Int.cast_le, Int.abs_eq_natAbs, Int.abs_eq_natAbs, Nat.cast_le]

theorem natAbs_eq_iff (a b : Int) : a.natAbs = b.natAbs ↔ |(a : ℝ)| = |(b : ℝ)| := by
  rw [← Int.cast_abs, ← Int.cast_abs, Int.cast_inj, Int.abs_eq_natAbs, Int.abs_eq_natAbs, Nat.cast_inj]

/-- A result of the right sign whose magnitude is nearest to `V` is nearest to the quotient of that sign and magnitude. -/
theorem nearestEven_of_nearest {r : F32} {num den : Int} {V : ℝ} (hV : 0 ≤ V) (hden : den ≠ 0)
    (hnum : (num : ℝ) = (if r.isNeg then -1 else 1) * V * den) (h : Nearest r.mag (r.bits.getLsbD 0 = false) V) :
    NearestEven r num den := by
  intro _ z hz
  obtain ⟨σ, hσ, hr⟩ : ∃ σ : ℝ, σ * σ = 1 ∧ σ = if r.isNeg then -1 else 1 :=
    ⟨_, by split <;> norm_num, rfl⟩
  have hrv := units_eq r
  rw [← hr] at hnum hrv
  have hdenR : (den : ℝ) ≠ 0 := by exact_mod_cast hden
  -- both distances with the sign of the result and the divisor taken out
  have hdist (u : Int) : |((u * den - num : Int) : ℝ)| = |(den : ℝ)| * |σ * u - V| := by
    have habs : |σ| = 1 := by
      have : |σ| * |σ| = 1 := by rw [← abs_mul, hσ, abs_one]
      nlinarith [abs_nonneg σ]
    have : ((u * den - num : Int) : ℝ) = den * (σ * (σ * u - V)) := by
      push_cast
      rw [hnum]
      linear_combination (-(u : ℝ) * den) * hσ
    rw [this, abs_mul, abs_mul, habs, one_mul]
  have hself : σ * (r.units : ℝ) = r.mag := by rw [hrv, ← mul_assoc, hσ, one_mul]
  have hother : σ * (z.units : ℝ) = z.mag ∨ σ * (z.units : ℝ) = -(z.mag : ℝ) := by
    rw [units_eq z, hr]
    split <;> split <;> simp
  obtain ⟨hle, htie⟩ := nearest_dist_le h hV hz hother
  rw [natAbs_le_iff, natAbs_eq_iff, hdist, hdist, hself]
  refine ⟨mul_le_mul_of_nonneg_left hle (abs_nonneg _), fun heq hne => htie (mul_left_cancel₀ (abs_ne_zero.mpr hdenR) heq) ?_⟩
  intro hsame
  have hmul : σ * (z.units : ℝ) = σ * r.units := by rw [hsame, hself]
  have hσ0 : σ ≠ 0 := fun h0 => by rw [h0] at hσ; norm_num at hσ
  exact hne (by exact_mod_cast mul_left_cancel₀ hσ0 hmul)

/-! ## The four operations -/

theorem not_isNan_of_isFinite {x : F32} (h : x.isFinite = true) : x.isNan = false := by
  have h' : x.expo ≠ 255 := by simpa [F32.isFinite] using h
  simp [F32.isNan, h']

theorem not_isInf_of_isFinite {x : F32} (h : x.isFinite = true) : x.isInf = false := by
  have h' : x.expo ≠ 255 := by simpa [F32.isFinite] using h
  simp [F32.isInf, h']

/-- A value without a tail. -/
theorem tailed_exact (n r : Nat) : Tailed n r false n := ⟨fun _ => rfl, fun h => by simp at h⟩

/-- The quotient of two naturals is its floor with the tail that the remainder tells. -/
theorem tailed_div {m d r : Nat} (hd : 0 < d) (hr : 1 ≤ r) : Tailed (m / d) r (m % d != 0) ((m : ℝ) / d) := by
  have hdR : (0 : ℝ) < d := by exact_mod_cast hd
  have hdiv : (m : ℝ) = d * (m / d : Nat) + (m % d : Nat) := by exact_mod_cast (Nat.div_add_mod m d).symm
  refine ⟨fun h => ?_, fun h => ⟨?_, ?_, hr⟩⟩
  · have hmod : m % d = 0 := by simpa using h
    rw [hmod, Nat.cast_zero, add_zero] at hdiv
    rw [hdiv, mul_div_cancel_left₀ _ hdR.ne']
  · have hmod : 0 < m % d := Nat.pos_of_ne_zero (by simpa using h)
    have hmodR : (0 : ℝ) < (m % d : Nat) := by exact_mod_cast hmod
    rw [lt_div_iff₀ hdR]
    linarith
  · have hmod : ((m % d : Nat) : ℝ) < d := by exact_mod_cast Nat.mod_lt m hd
    rw [div_lt_iff₀ hdR]
    linarith

theorem units_eq_zero_iff (x : F32) : x.units = 0 ↔ x.mag = 0 := by
  unfold F32.units
  split <;> omega

/-- A finite sum is the integer sum of units, rounded. -/
theorem nearestEven_add {x y : F32} (hx : x.isFinite = true) (hy : y.isFinite = true) :
    NearestEven (F32.add x y) (x.units + y.units) 1 := by
  have hadd : F32.add x y = F32.addFinite x y := by
    simp [F32.add, not_isNan_of_isFinite hx, not_isNan_of_isFinite hy, not_isInf_of_isFinite hx, not_isInf_of_isFinite hy]
  rw [hadd, F32.addFinite]
  intro hfin
  revert hfin
  split
  · next hzero =>
    intro _ z _
    have hunits : (F32.signedZero (x.isNeg && y.isNeg)).units = 0 := by
      cases x.isNeg && y.isNeg <;> decide
    rw [hunits, hzero]
    exact ⟨by simp, fun h => absurd (by simpa using h.symm)⟩
  · next hne =>
    intro hfin
    obtain ⟨hneg, hnear⟩ := rnd_nearest (decide (x.units + y.units < 0)) (V := ((x.units + y.units).natAbs : ℝ))
      (by rw [pow_zero, mul_one]; exact tailed_exact _ _) hfin
    refine nearestEven_of_nearest (Nat.cast_nonneg _) one_ne_zero ?_ hnear hfin
    rw [F32.rndUnits, hneg]
    generalize x.units + y.units = u
    rcases lt_or_ge u 0 with hu | hu
    · have : ((u.natAbs : Int) : ℝ) = ((-u : Int) : ℝ) := by exact_mod_cast (by omega : (u.natAbs : Int) = -u)
      rw [Int.cast_natCast] at this
      simp [hu, this]
    · have : ((u.natAbs : Int) : ℝ) = ((u : Int) : ℝ) := by exact_mod_cast (by omega : (u.natAbs : Int) = u)
      rw [Int.cast_natCast] at this
      simp [not_lt.mpr hu, this]

theorem neg_parts {y : F32} (hy : y.isFinite = true) :
    (F32.neg y).isFinite = true ∧ (F32.neg y).units = -y.units := by
  have hneg : F32.neg y = ⟨y.bits ^^^ 0x80000000#32⟩ := by simp [F32.neg, not_isNan_of_isFinite hy]
  have hexpo : (F32.neg y).expo = y.expo := by
    rw [hneg]
    refine congrArg BitVec.toNat (?_ : (y.bits ^^^ 0x80000000#32).extractLsb' 23 8 = y.bits.extractLsb' 23 8)
    rw [BitVec.extractLsb'_xor]
    simp
  have hfrac : (F32.neg y).frac = y.frac := by
    rw [hneg]
    refine congrArg BitVec.toNat (?_ : (y.bits ^^^ 0x80000000#32).extractLsb' 0 23 = y.bits.extractLsb' 0 23)
    rw [BitVec.extractLsb'_xor]
    simp
  have hsign : (F32.neg y).isNeg = !y.isNeg := by
    rw [hneg]
    simp [F32.isNeg]
  refine ⟨by rw [F32.isFinite, hexpo]; exact hy, ?_⟩
  rw [F32.units, F32.units, F32.mag, F32.mag, hexpo, hfrac, hsign]
  cases y.isNeg <;> simp

theorem sign_mul (a b : Bool) : ((if (a != b) = true then -1 else 1 : ℝ)) = (if a then -1 else 1) * (if b then -1 else 1) := by
  cases a <;> cases b <;> simp

/-- A finite product is the product of the magnitudes, in units of 2^-298, rounded. -/
theorem nearestEven_mul {x y : F32} (hx : x.isFinite = true) (hy : y.isFinite = true) :
    NearestEven (F32.mul x y) (x.units * y.units) (2 ^ 149) := by
  have hmul : F32.mul x y = F32.rnd (x.isNeg != y.isNeg) (x.mag * y.mag) 149 false := by
    simp [F32.mul, not_isNan_of_isFinite hx, not_isNan_of_isFinite hy, not_isInf_of_isFinite hx, not_isInf_of_isFinite hy]
  rw [hmul]
  intro hfin
  obtain ⟨hneg, hnear⟩ := rnd_nearest (x.isNeg != y.isNeg) (V := ((x.mag * y.mag : Nat) : ℝ) / 2 ^ 149)
    (by rw [div_mul_cancel₀ _ (by positivity)]; exact tailed_exact _ _) hfin
  refine nearestEven_of_nearest (by positivity) (by positivity) ?_ hnear hfin
  have hc : (2 : ℝ) ^ 149 ≠ 0 := by positivity
  rw [hneg, sign_mul, Int.cast_mul, units_eq x, units_eq y, Nat.cast_mul, Int.cast_pow, Int.cast_ofNat]
  generalize (2 : ℝ) ^ 149 = c at hc
  field_simp

/-- A finite quotient is the floor of the quotient in units of 2^-349, rounded with its tail. -/
theorem nearestEven_div {x y : F32} (hx : x.isFinite = true) (hy : y.isFinite = true) (h0 : y.units ≠ 0) :
    NearestEven (F32.div x y) (x.units * 2 ^ 149) y.units := by
  have hmag : y.mag ≠ 0 := fun h => h0 ((units_eq_zero_iff y).mpr h)
  have hdiv : F32.div x y =
      F32.rnd (x.isNeg != y.isNeg) (x.mag <<< 349 / y.mag) 200 (x.mag <<< 349 % y.mag != 0) := by
    simp [F32.div, not_isNan_of_isFinite hx, not_isNan_of_isFinite hy, not_isInf_of_isFinite hx, not_isInf_of_isFinite hy, hmag]
  rw [hdiv]
  intro hfin
  have hmagR : (0 : ℝ) < y.mag := by exact_mod_cast Nat.pos_of_ne_zero hmag
  have hscale : (x.mag : ℝ) * (2 : ℝ) ^ 149 / y.mag * (2 : ℝ) ^ 200 = ((x.mag <<< 349 : Nat) : ℝ) / y.mag := by
    rw [Nat.shiftLeft_eq, Nat.cast_mul, Nat.cast_pow, Nat.cast_ofNat, show 349 = 149 + 200 from rfl, pow_add]
    ring
  have hdrop := (dropBits_spec (x.mag <<< 349 / y.mag) 200).1
  have htail := tailed_div (m := x.mag <<< 349) (Nat.pos_of_ne_zero hmag)
    (show 1 ≤ F32.dropBits (x.mag <<< 349 / y.mag) 200 by omega)
  rw [← hscale] at htail
  obtain ⟨hneg, hnear⟩ := rnd_nearest (x.isNeg != y.isNeg) htail hfin
  refine nearestEven_of_nearest (div_nonneg (mul_nonneg (Nat.cast_nonneg _) (pow_nonneg zero_le_two _)) (Nat.cast_nonneg _)) h0 ?_
    hnear hfin
  rw [hneg, sign_mul, Int.cast_mul, units_eq x, units_eq y, Int.cast_pow, Int.cast_ofNat]
  generalize (2 : ℝ) ^ 149 = c
  have hsq : ((if y.isNeg then -1 else 1 : ℝ)) * (if y.isNeg then -1 else 1) = 1 := by split <;> norm_num
  field_simp
  linear_combination (-(x.mag : ℝ) * c) * hsq

/-! ## The square root -/

/-- A Newton step from above the root stays at or above it, and halves the distance to it. -/
theorem newton_step {n x : Nat} (hx : Nat.sqrt n < x) :
    Nat.sqrt n ≤ (x + n / x) / 2 ∧ (x + n / x) / 2 - Nat.sqrt n ≤ (x - Nat.sqrt n) / 2 ∧ (x + n / x) / 2 < x := by
  obtain ⟨s, hs⟩ : ∃ s, Nat.sqrt n = s := ⟨_, rfl⟩
  have hlo : s * s ≤ n := hs ▸ Nat.sqrt_le n
  have hhi : n < (s + 1) * (s + 1) := hs ▸ Nat.lt_succ_sqrt n
  rw [hs] at hx ⊢
  have hquot : n / x ≤ s := Nat.le_of_lt_succ ((Nat.div_lt_iff_lt_mul (by omega)).mpr
    (hhi.trans_le (Nat.mul_le_mul_left _ hx)))
  have hsum : 2 * s ≤ x + n / x := by
    rcases Nat.le_total (2 * s) x with h | h
    · exact h.trans (Nat.le_add_right ..)
    · obtain ⟨j, rfl⟩ := Nat.exists_eq_add_of_lt hx
      have : 2 * s - (s + j + 1) ≤ n / (s + j + 1) := by
        rw [Nat.le_div_iff_mul_le (by omega)]
        obtain ⟨i, hi⟩ := Nat.exists_eq_add_of_le (show j + 1 ≤ s by omega)
        have : 2 * s - (s + j + 1) = i := by omega
        rw [this]
        refine le_trans ?_ hlo
        subst hi
        nlinarith
      generalize n / (s + j + 1) = y at this
      omega
  generalize n / x = y at hquot hsum
  omega

/-- The Newton loop from above, with fuel for the distance, finds the integer root. -/
theorem isqrtLoop_eq {n : Nat} (hn : 0 < n) (fuel x : Nat) (hx : Nat.sqrt n ≤ x) (hfuel : x - Nat.sqrt n < 2 ^ fuel) :
    F32.isqrtLoop fuel n x = Nat.sqrt n := by
  induction fuel generalizing x with
  | zero =>
    rw [F32.isqrtLoop]
    omega
  | succ fuel ih =>
    rw [F32.isqrtLoop]
    rw [Nat.pow_succ] at hfuel
    rcases Nat.eq_or_lt_of_le hx with heq | hlt
    · have hstay : Nat.sqrt n ≤ (x + n / x) / 2 := by
        rw [← heq, Nat.le_div_iff_mul_le (by decide), Nat.mul_two]
        have : Nat.sqrt n ≤ n / Nat.sqrt n :=
          (Nat.le_div_iff_mul_le (Nat.sqrt_pos.mpr hn)).mpr (Nat.sqrt_le n)
        omega
      rw [if_neg (by omega)]
      exact heq.symm
    · obtain ⟨hge, hhalf, hdown⟩ := newton_step hlt
      rw [if_pos hdown]
      exact ih _ hge (by omega)

theorem isqrt_eq (n : Nat) : F32.isqrt n = Nat.sqrt n := by
  unfold F32.isqrt
  split
  · next h => rw [h, Nat.sqrt_zero]
  · next h =>
    have hlog : n < 2 ^ (Nat.log2 n + 1) := Nat.lt_log2_self
    have hstart : Nat.sqrt n < 2 ^ (Nat.log2 n / 2 + 1) := by
      rw [Nat.sqrt_lt', ← Nat.pow_mul]
      exact hlog.trans_le (Nat.pow_le_pow_right (by decide) (by omega))
    have hbound : 2 ^ (Nat.log2 n / 2 + 1) ≤ 2 ^ (Nat.log2 n + 2) := Nat.pow_le_pow_right (by decide) (by omega)
    exact isqrtLoop_eq (Nat.pos_of_ne_zero h) _ _ hstart.le (by have := Nat.sqrt_pos.mpr (Nat.pos_of_ne_zero h); omega)

/-- The magnitude of a finite datum has at most 277 bits. -/
theorem mag_lt {x : F32} (h : x.isFinite = true) : x.mag < 2 ^ 24 * 2 ^ 253 := by
  have hexpo : x.expo ≠ 255 := by simpa [F32.isFinite] using h
  have hfrac := frac_lt x
  have hlt := expo_lt x
  unfold F32.mag
  split
  · omega
  · rw [Nat.shiftLeft_eq]
    have hpow : 2 ^ (x.expo - 1) ≤ 2 ^ 253 := Nat.pow_le_pow_right (by decide) (by omega)
    exact Nat.mul_lt_mul_of_lt_of_le (by omega) hpow (Nat.two_pow_pos _)

/-- A zero has no magnitude. -/
theorem isZero_iff {x : F32} (h : x.isFinite = true) : x.isZero = true ↔ x.mag = 0 := by
  have hkey : (x.bits.extractLsb' 0 31).toNat = x.expo * 2 ^ 23 + x.frac := by
    simp only [F32.expo, F32.frac, BitVec.extractLsb'_toNat, Nat.shiftRight_eq_div_pow]
    omega
  have hkey0 : x.key = 0 ↔ x.expo * 2 ^ 23 + x.frac = 0 := by
    simp only [F32.key, hkey]
    split <;> omega
  have hzero : x.isZero = true ↔ x.expo * 2 ^ 23 + x.frac = 0 := by
    rw [← hkey0]
    simp only [F32.isZero, F32.eqv, not_isNan_of_isFinite h, show F32.zero.isNan = false by decide,
      show F32.zero.key = 0 by decide, Bool.not_false, Bool.true_and, decide_eq_true_eq]
  rw [hzero, F32.mag]
  split
  · omega
  · rw [Nat.shiftLeft_eq]
    have := Nat.mul_pos (show 0 < x.frac + 8388608 by omega) (Nat.two_pow_pos (x.expo - 1))
    omega

/-- `rnd` of an integer below 2^213 is finite. -/
theorem rnd_isFinite (n : Nat) (sticky : Bool) (hn : n < 2 ^ 213) : (F32.rnd false n 0 sticky).isFinite = true := by
  have hround : ∀ r, F32.roundShift n r sticky ≤ n / 2 ^ r + 1 := by
    intro r
    unfold F32.roundShift
    rw [Nat.shiftRight_eq_div_pow]
    dsimp only
    split <;> omega
  obtain ⟨-, hlt, hnorm⟩ := dropBits_spec n 0
  have hdrop : F32.dropBits n 0 ≤ 190 := by
    by_contra hgt
    have hle := hnorm.resolve_left (by omega)
    have : 2 ^ 213 ≤ 2 ^ (F32.dropBits n 0 + 23) := Nat.pow_le_pow_right (by decide) (by omega)
    omega
  have hq : n / 2 ^ F32.dropBits n 0 < 2 ^ 24 := by
    rw [Nat.div_lt_iff_lt_mul (Nat.two_pow_pos _), ← Nat.pow_add, Nat.add_comm 24]
    exact hlt
  have hr := hround (F32.dropBits n 0)
  rw [rnd_eq, if_neg (by omega), F32.isFinite, ofBits_expo false (by omega)]
  simp only [bne_iff_ne, ne_eq]
  omega

/-- The root of a finite datum of positive magnitude: finite, not negative, nearest. -/
theorem sqrt_nearest {x : F32} (hfin : x.isFinite = true) (hneg : x.isNeg = false) (h0 : x.mag ≠ 0) :
    (F32.sqrt x).isFinite = true ∧ (F32.sqrt x).isNeg = false ∧
      Nearest (F32.sqrt x).mag ((F32.sqrt x).bits.getLsbD 0 = false) (Real.sqrt (x.mag * 2 ^ 149)) := by
  obtain ⟨m, hm⟩ : ∃ m, m = x.mag <<< 149 := ⟨_, rfl⟩
  have hmul : m = x.mag * 2 ^ 149 := by rw [hm, Nat.shiftLeft_eq]
  have hroot : F32.sqrt x = F32.rnd false (Nat.sqrt m) 0 (Nat.sqrt m * Nat.sqrt m != m) := by
    have hzero : ¬ x.isZero = true := fun h => h0 ((isZero_iff hfin).mp h)
    simp only [F32.sqrt, not_isNan_of_isFinite hfin, hzero, hneg, not_isInf_of_isFinite hfin, ← hm, isqrt_eq,
      Bool.false_eq_true, if_false]
  have hsmall : Nat.sqrt m < 2 ^ 213 := by
    have := mag_lt hfin
    rw [Nat.sqrt_lt', ← Nat.pow_mul, hmul]
    calc x.mag * 2 ^ 149 < 2 ^ 24 * 2 ^ 253 * 2 ^ 149 := Nat.mul_lt_mul_of_pos_right this (Nat.two_pow_pos _)
      _ = 2 ^ (213 * 2) := by rw [← Nat.pow_add, ← Nat.pow_add]
  have hbig : 2 ^ 74 ≤ Nat.sqrt m := by
    rw [Nat.le_sqrt', ← Nat.pow_mul, hmul]
    calc 2 ^ (74 * 2) ≤ 1 * 2 ^ 149 := by decide
      _ ≤ x.mag * 2 ^ 149 := Nat.mul_le_mul_right _ (Nat.pos_of_ne_zero h0)
  have hdrop : 1 ≤ F32.dropBits (Nat.sqrt m) 0 := by
    obtain ⟨-, hlt, -⟩ := dropBits_spec (Nat.sqrt m) 0
    by_contra hzero
    rw [show F32.dropBits (Nat.sqrt m) 0 = 0 by omega] at hlt
    omega
  have hV : Real.sqrt (x.mag * 2 ^ 149) = Real.sqrt m := by
    rw [hmul, Nat.cast_mul, Nat.cast_pow, Nat.cast_ofNat]
  have hsqle : ((Nat.sqrt m : Nat) : ℝ) ^ 2 ≤ m := by exact_mod_cast Nat.sqrt_le' m
  have htail : Tailed (Nat.sqrt m) (F32.dropBits (Nat.sqrt m) 0) (Nat.sqrt m * Nat.sqrt m != m)
      (Real.sqrt m * 2 ^ 0) := by
    rw [pow_zero, mul_one]
    refine ⟨fun h => ?_, fun h => ⟨?_, ?_, hdrop⟩⟩
    · have hsq : Nat.sqrt m * Nat.sqrt m = m := by simpa using h
      conv_lhs => rw [← hsq, Nat.cast_mul]
      exact Real.sqrt_mul_self (Nat.cast_nonneg _)
    · have hne : Nat.sqrt m * Nat.sqrt m ≠ m := by simpa using h
      refine Real.lt_sqrt_of_sq_lt ?_
      exact_mod_cast lt_of_le_of_ne (Nat.sqrt_le' m) (by rwa [Nat.pow_two])
    · rw [Real.sqrt_lt' (Nat.cast_add_one_pos _)]
      exact_mod_cast Nat.lt_succ_sqrt' m
  rw [hroot, hV]
  have hfinite := rnd_isFinite (Nat.sqrt m) (Nat.sqrt m * Nat.sqrt m != m) hsmall
  obtain ⟨hsign, hnear⟩ := rnd_nearest false htail hfinite
  exact ⟨hfinite, hsign, hnear⟩

theorem units_of_nonneg {z : F32} (h : 0 ≤ z.units) : z.units = z.mag := by
  unfold F32.units at h ⊢
  split at h <;> rename_i hneg
  · rw [if_pos hneg]
    omega
  · rw [if_neg hneg]

/-- Settles O60: each operation is `rnd` of the exact result, and `rnd` takes the nearest datum. -/
theorem additionRoundsToNearest : Obligations.AdditionRoundsToNearest := by
  unfold Obligations.AdditionRoundsToNearest
  refine ⟨?_, ?_, rfl, rfl, rfl, rfl, rfl⟩
  · intro _ x y hx hy
    obtain ⟨hny, hunits⟩ := neg_parts hy
    refine ⟨nearestEven_add hx hy, ?_, nearestEven_mul hx hy, fun h => nearestEven_div hx hy h⟩
    have hsub := nearestEven_add hx hny
    rw [hunits, ← sub_eq_add_neg] at hsub
    exact hsub
  · intro x hx h0
    have hunits := units_of_nonneg h0
    by_cases hmag : x.mag = 0
    · have hroot : F32.sqrt x = x := by
        simp only [F32.sqrt, not_isNan_of_isFinite hx, (isZero_iff hx).mpr hmag, Bool.false_eq_true, if_false, if_true]
      have hzero : x.units = 0 := (units_eq_zero_iff x).mpr hmag
      rw [hroot, hzero]
      exact ⟨hx, le_rfl, fun z _ => ⟨fun _ => by rw [Int.zero_mul, Int.mul_zero]; positivity,
        fun hlt hle => absurd hlt (not_lt.mpr hle)⟩⟩
    · have hneg : x.isNeg = false := by
        cases hn : x.isNeg
        · rfl
        · rw [F32.units, hn, if_pos rfl] at h0
          omega
      obtain ⟨hfin, hsign, hnear⟩ := sqrt_nearest hx hneg hmag
      have hroot : (F32.sqrt x).units = (F32.sqrt x).mag := by
        rw [F32.units, hsign]
        rfl
      obtain ⟨V, hV⟩ : ∃ V, V = Real.sqrt (x.mag * 2 ^ 149) := ⟨_, rfl⟩
      have hV0 : 0 ≤ V := hV ▸ Real.sqrt_nonneg _
      have hVsq : V ^ 2 = ((x.units * 2 ^ 149 : Int) : ℝ) := by
        rw [hV, Real.sq_sqrt (mul_nonneg (Nat.cast_nonneg _) (pow_nonneg zero_le_two _)), hunits, Int.cast_mul,
          Int.cast_natCast, Int.cast_pow, Int.cast_ofNat]
      rw [← hV] at hnear
      dsimp only
      rw [hroot]
      generalize x.units * 2 ^ 149 = u at hVsq
      generalize (F32.sqrt x).mag = ρ at hnear
      refine ⟨hfin, Int.natCast_nonneg _, fun z hz => ⟨fun hlt => ?_, fun hlt hz0 => ?_⟩⟩
      · have hzu := units_of_nonneg ((Int.natCast_nonneg ρ).trans hlt.le)
        rw [hzu] at hlt ⊢
        have hup := (hnear z hz).1 (by exact_mod_cast hlt)
        have hsq : 4 * (u : ℝ) ≤ ((ρ : ℝ) + z.mag) ^ 2 := by nlinarith
        exact_mod_cast hsq
      · have hzu := units_of_nonneg hz0
        rw [hzu] at hlt ⊢
        have hdown := (hnear z hz).2.1 (by exact_mod_cast hlt)
        have hsq : ((ρ : ℝ) + z.mag) ^ 2 ≤ 4 * (u : ℝ) := by
          have : (0 : ℝ) ≤ (ρ : ℝ) + z.mag := by positivity
          nlinarith
        exact_mod_cast hsq

end Sys2Proof.Proofs.Rounding
end

section
/-! PROOF. The symbol chain (R450 to R461): the reliability, the rolling update, one symbol with and without the scanner; O50,
O51. -/

namespace Sys2Proof.Proofs.Slicing
open Sys2Proof Sys2Proof.Machine

/-! ## Magnitudes as data (R461) -/

/-- Magnitudes that are no NaN are the same datum where they are the same value. -/
theorem abs_inj_of_key {x y : F32} (hx : (F32.abs x).isNan = false) (hy : (F32.abs y).isNan = false)
    (h : (F32.abs x).key = (F32.abs y).key) : F32.abs x = F32.abs y := by
  have hparts : ∀ z : F32, (F32.abs z).isNan = false → F32.abs z = ⟨z.bits &&& 0x7FFFFFFF#32⟩ := by
    intro z hz
    unfold F32.abs at hz ⊢
    split at hz
    · exact absurd hz (by decide)
    · next hn => rw [if_neg hn]
  have hkey : ∀ w : Word, (F32.mk (w &&& 0x7FFFFFFF#32)).key = ((w &&& 0x7FFFFFFF#32).toNat : Int) := by
    intro w
    have hlt : (w &&& 0x7FFFFFFF#32).toNat < 2 ^ 31 := by
      rw [BitVec.toNat_and]
      exact lt_of_le_of_lt Nat.and_le_right (by decide)
    rw [Csrs.key_eq, if_neg (by omega), Nat.mod_eq_of_lt hlt]
  rw [hparts x hx, hparts y hy] at h ⊢
  rw [hkey, hkey, Int.natCast_inj] at h
  exact congrArg F32.mk (BitVec.eq_of_toNat_eq h)

/-- The least of three margins that are no NaN is the one below which none lies. -/
theorem leastMargin_eq {a b c m : F32} (hnan : ∀ v ∈ [F32.abs a, F32.abs b, F32.abs c], v.isNan = false)
    (hm : m ∈ [F32.abs a, F32.abs b, F32.abs c]) (hleast : ∀ v ∈ [F32.abs a, F32.abs b, F32.abs c], F32.lt v m = false) :
    leastMargin .binary32 (F32.abs a) (F32.abs b) (F32.abs c) = m := by
  simp only [List.mem_cons, List.not_mem_nil, or_false, forall_eq_or_imp, forall_eq] at hnan hm hleast
  obtain ⟨ha, hb, hc⟩ := hnan
  obtain ⟨hla, hlb, hlc⟩ := hleast
  have hmin : leastMargin .binary32 (F32.abs a) (F32.abs b) (F32.abs c) =
      minReal .binary32 (minReal .binary32 (F32.abs a) (F32.abs b)) (F32.abs c) := by
    simp [leastMargin, ha, hb, hc]
  have hkeyab : ∀ x y : F32, x.isNan = false → y.isNan = false →
      minReal .binary32 x y = if y.key < x.key then y else x := by
    intro x y hx hy
    simp only [minReal, lt_eq hy hx, decide_eq_true_eq]
  have hmabs : ∃ x, m = F32.abs x ∧ (F32.abs x).isNan = false := by
    rcases hm with rfl | rfl | rfl
    exacts [⟨a, rfl, ha⟩, ⟨b, rfl, hb⟩, ⟨c, rfl, hc⟩]
  obtain ⟨x, rfl, hx⟩ := hmabs
  rw [lt_eq ha hx, decide_eq_false_iff_not, not_lt] at hla
  rw [lt_eq hb hx, decide_eq_false_iff_not, not_lt] at hlb
  rw [lt_eq hc hx, decide_eq_false_iff_not, not_lt] at hlc
  have hkeys : (F32.abs x).key = (F32.abs a).key ∨ (F32.abs x).key = (F32.abs b).key ∨
      (F32.abs x).key = (F32.abs c).key := hm.imp (congrArg F32.key) (Or.imp (congrArg F32.key) (congrArg F32.key))
  rw [hmin, hkeyab _ _ ha hb]
  by_cases hab : (F32.abs b).key < (F32.abs a).key
  · rw [if_pos hab, hkeyab _ _ hb hc]
    split
    · exact abs_inj_of_key hc hx (by omega)
    · exact abs_inj_of_key hb hx (by omega)
  · rw [if_neg hab, hkeyab _ _ ha hc]
    split
    · exact abs_inj_of_key hc hx (by omega)
    · exact abs_inj_of_key ha hx (by omega)

/-! ## The reliability (R461) -/

/-- `rnd` never gives a NaN. -/
theorem rnd_isNan (neg : Bool) (n k : Nat) (sticky : Bool) : (F32.rnd neg n k sticky).isNan = false := by
  rw [Rounding.rnd_eq]
  split
  · cases neg <;> decide
  · have h : ∀ b, ¬ 0x7F800000 ≤ b → (Rounding.ofBits neg b).isNan = false := by
      intro b hb
      rw [F32.isNan, Rounding.ofBits_expo neg (by omega)]
      have : b / 2 ^ 23 ≠ 255 := by omega
      rw [beq_eq_false_iff_ne.mpr this, Bool.false_and]
    exact h _ ‹_›

/-- A finite quotient with a positive divisor: its floor, as a natural number where it is one. -/
theorem relScale_of_finite {m h : F32} (hpos : F32.lt F32.zero h = true) (hh : h.isFinite = true)
    (hnum : (F32.mul (F32.ofNat 255) m).isFinite = true) :
    Machine.relScale .binary32 m h =
      BitVec.ofNat 8 (min 255 ((F32.mul (F32.ofNat 255) m).units.toNat / h.units.toNat)) := by
  generalize hn : F32.mul (F32.ofNat 255) m = num at hnum
  have hlt : 0 < h.key := by
    have hnan := Rounding.not_isNan_of_isFinite hh
    rw [lt_eq (by decide) hnan, decide_eq_true_eq, show F32.zero.key = 0 by decide] at hpos
    exact hpos
  have hle : F32.le h F32.zero = false := by
    simp only [F32.le, show F32.zero.key = 0 by decide, Bool.and_eq_false_iff, decide_eq_false_iff_not]
    right
    omega
  have hneg : h.isNeg = false := by
    cases hs : h.isNeg
    · rfl
    · rw [F32.key, hs] at hlt
      simp only [if_true] at hlt
      omega
  have hmag : h.mag ≠ 0 := fun h0 => by
    have := (Rounding.isZero_iff hh).mpr h0
    simp only [F32.isZero, F32.eqv, show F32.zero.key = 0 by decide, Bool.and_eq_true, decide_eq_true_eq] at this
    omega
  have hunits : h.units = h.mag := by rw [F32.units, hneg]; rfl
  have hdiv : (F32.div num h).isNan = false := by
    simp only [F32.div, Rounding.not_isNan_of_isFinite hnum, Rounding.not_isNan_of_isFinite hh,
      Rounding.not_isInf_of_isFinite hnum, Rounding.not_isInf_of_isFinite hh, hmag, Bool.or_self, Bool.false_eq_true, if_false]
    exact rnd_isNan ..
  have hfloor : F32.floorQuot num h = some (num.units.fdiv h.units) := by
    simp [F32.floorQuot, hnum, hh, hmag]
  have hnat : (num.units.fdiv h.units).toNat = num.units.toNat / h.units.toNat := by
    rw [hunits, Int.toNat_natCast]
    rcases le_or_gt 0 num.units with h0 | h0
    · obtain ⟨n, hn⟩ := Int.eq_ofNat_of_zero_le h0
      rw [hn, Int.toNat_natCast, Int.fdiv_eq_ediv_of_nonneg _ (Int.natCast_nonneg _), ← Int.natCast_ediv, Int.toNat_natCast]
    · have hq : num.units.fdiv h.mag < 0 := Int.fdiv_neg_of_neg_of_pos h0 (by omega)
      rw [Int.toNat_of_nonpos hq.le, Int.toNat_of_nonpos h0.le, Nat.zero_div]
  have hscale : Machine.relScale .binary32 m h =
      if F32.le h F32.zero = true then 0#8
      else if (F32.div num h).isNan = true then Config.relOfNan m h
      else if h.isInf = true then 0#8
      else match F32.floorQuot num h with
        | some q => BitVec.ofNat 8 (min 255 q.toNat)
        | none => 255#8 := by
    rw [← hn]
    rfl
  rw [hscale, hle, hdiv, Rounding.not_isInf_of_isFinite hh, hfloor]
  simp only [Bool.false_eq_true, if_false, hnat]

/-- The FM-family reliability of finite margins and spacing (R461). -/
theorem relFm_of_finite (sl : Slicer F32) (x : F32) :
    let margins := [F32.abs (F32.sub x sl.center), F32.abs (F32.sub x sl.umid), F32.abs (F32.sub x sl.lmid)]
    let h := F32.sub sl.umid sl.center
    (F32.le h F32.zero = true → relFm Params.default sl x = 0#8) ∧
      (F32.lt F32.zero h = true → h.isFinite = true → ∀ m ∈ margins, (∀ a ∈ margins, a.isNan = false) →
        (∀ a ∈ margins, F32.lt a m = false) → (F32.mul (F32.ofNat 255) m).isFinite = true →
        relFm Params.default sl x =
          BitVec.ofNat 8 (min 255 ((F32.mul (F32.ofNat 255) m).units.toNat / h.units.toNat))) := by
  intro margins h
  have hrel : relFm Params.default sl x = Machine.relScale .binary32
      (leastMargin .binary32 (F32.abs (F32.sub x sl.center)) (F32.abs (F32.sub x sl.umid)) (F32.abs (F32.sub x sl.lmid))) h :=
    rfl
  refine ⟨fun hle => hrel.trans (if_pos hle), fun hpos hfin m hm hnan hleast hnum => ?_⟩
  rw [hrel, leastMargin_eq hnan hm hleast, relScale_of_finite hpos hfin hnum]

/-- The CQPSK reliability of finite margins (R461). -/
theorem relCq_of_finite (sl : Slicer F32) (x : F32) :
    let v := F32.sub x sl.center
    let margins := [F32.abs v, F32.abs (F32.sub v (F32.ofNat 2)), F32.abs (F32.add v (F32.ofNat 2))]
    ∀ m ∈ margins, (∀ a ∈ margins, a.isNan = false) → (∀ a ∈ margins, F32.lt a m = false) →
      (F32.mul (F32.ofNat 255) m).isFinite = true →
      relCq Params.default sl x = BitVec.ofNat 8 (min 255 ((F32.mul (F32.ofNat 255) m).units.toNat / 2 ^ 150)) := by
  intro v margins m hm hnan hleast hnum
  have hrel : relCq Params.default sl x = Machine.relScale .binary32
      (leastMargin .binary32 (F32.abs v) (F32.abs (F32.sub v (F32.ofNat 2))) (F32.abs (F32.add v (F32.ofNat 2)))) (F32.ofNat 2) :=
    rfl
  have htwo : (F32.ofNat 2).units.toNat = 2 ^ 150 := by decide +kernel
  rw [hrel, leastMargin_eq hnan hm hleast, relScale_of_finite (by decide) (by decide) hnum, htwo]

/-! ## The rolling update (R460) -/

/-- The extreme of a list by an order that a key gives is in the list, and no entry comes before it. -/
theorem extremeOf_spec {F : RealFormat F32} {before : F32 → F32 → Bool} {key : F32 → Int} (a : F32) (l : List F32)
    (hkey : ∀ x ∈ a :: l, ∀ y ∈ a :: l, before x y = decide (key x < key y)) :
    extremeOf F before (a :: l) ∈ a :: l ∧ ∀ v ∈ a :: l, key v ≤ key (extremeOf F before (a :: l)) := by
  have step : ∀ (l' : List F32) (m : F32), m ∈ a :: l → (∀ y ∈ l', y ∈ a :: l) →
      let e := l'.foldl (fun m x => if before m x then x else m) m
      e ∈ a :: l ∧ key m ≤ key e ∧ ∀ v ∈ l', key v ≤ key e := by
    intro l'
    induction l' with
    | nil => exact fun m hm _ => ⟨hm, le_rfl, fun v hv => by simp at hv⟩
    | cons x xs ih =>
      intro m hm hsub
      have hx := hsub x List.mem_cons_self
      have hxs := fun y hy => hsub y (List.mem_cons_of_mem _ hy)
      rw [List.foldl_cons, hkey m hm x hx]
      by_cases hlt : key m < key x
      · rw [decide_eq_true hlt, if_pos rfl]
        obtain ⟨he, hle, hall⟩ := ih x hx hxs
        exact ⟨he, hlt.le.trans hle, fun v hv => (List.mem_cons.mp hv).elim (fun h => h ▸ hle) (hall v)⟩
      · rw [decide_eq_false hlt, if_neg (by decide)]
        obtain ⟨he, hle, hall⟩ := ih m hm hxs
        exact ⟨he, hle, fun v hv => (List.mem_cons.mp hv).elim (fun h => h ▸ (not_lt.mp hlt).trans hle) (hall v)⟩
  obtain ⟨he, hle, hall⟩ := step l a List.mem_cons_self fun y hy => List.mem_cons_of_mem _ hy
  exact ⟨he, fun v hv => (List.mem_cons.mp hv).elim (fun h => h ▸ hle) (hall v)⟩

/-- The extremes of a window that holds a symbol and no NaN. -/
theorem windowExtremes_spec {win : List F32} (hne : win ≠ []) (hnan : ∀ v ∈ win, v.isNan = false) (free : Nat) :
    ∃ hi ∈ win, ∃ lo ∈ win, (∀ v ∈ win, F32.lt hi v = false) ∧ (∀ v ∈ win, F32.lt v lo = false) ∧
      windowExtremes .binary32 free win = (hi, lo, free) := by
  obtain ⟨a, l, rfl⟩ := List.exists_cons_of_ne_nil hne
  have hany : (a :: l).any F32.isNan = false := by
    rw [List.any_eq_false]
    exact fun v hv => by simp [hnan v hv]
  obtain ⟨hhi, hmax⟩ := extremeOf_spec (F := .binary32) (before := F32.lt) (key := F32.key) a l
    fun x hx y hy => lt_eq (hnan x hx) (hnan y hy)
  obtain ⟨hlo, hmin⟩ := extremeOf_spec (F := .binary32) (before := fun m x => F32.lt x m) (key := fun x => -x.key) a l
    fun x hx y hy => by rw [lt_eq (hnan y hy) (hnan x hx), decide_eq_decide]; omega
  refine ⟨_, hhi, _, hlo, fun v hv => ?_, fun v hv => ?_, ?_⟩
  · rw [lt_eq (hnan _ hhi) (hnan v hv), decide_eq_false_iff_not]
    exact not_lt.mpr (hmax v hv)
  · rw [lt_eq (hnan v hv) (hnan _ hlo), decide_eq_false_iff_not]
    have := hmin v hv
    omega
  · unfold windowExtremes
    rw [hany]
    rfl

/-- What the rolling update leaves in the slicer, its derived fields written out. -/
theorem roll_eq (sl : Slicer F32) (ms : Nat) (hi lo : F32) :
    let i := if ms ≤ sl.midx then 0 else sl.midx
    let fill := min (sl.fill + 1) ms
    let mx := F32.mean ((sl.maxbuf.set i hi).take fill)
    let mn := F32.mean ((sl.minbuf.set i lo).take fill)
    sl.roll .binary32 ms hi lo =
      Slicer.derive .binary32
        { sl with
          maxbuf := sl.maxbuf.set i hi, minbuf := sl.minbuf.set i lo, midx := (i + 1) % ms, fill := fill
          max := mx, min := mn, center := F32.div (F32.add mx mn) (F32.ofNat 2) } := by
  simp only [Slicer.roll, Nat.min_def]

/-! ## One symbol (R458) -/

section
variable {s : State}

/-- STAGE.SLICE on one symbol: the chain up to the scanner, and then the scanner. -/
theorem stageSlice_one {z : C32} (hon : s.on .slice = true) (hxs : s.work.xs = [z]) :
    stageSlice Params.default s =
      stageScan Params.default (sliceSymbol Params.default (s.withStream []) (slicerInput Params.default s.cfg z)) := by
  rw [Stages.stageSlice_eq, if_pos hon, hxs]
  change State.withStream (symbolStep Params.default s (slicerInput Params.default s.cfg z)) [] = _
  rw [symbolStep, ← Stages.stageScan_blind, ← Stages.sliceSymbol_withStream]

/-- The symbol chain keeps the latched configuration. -/
theorem sliceSymbol_cfg (t : State) (x : F32) : (sliceSymbol Params.default t x).cfg = t.cfg := by
  unfold sliceSymbol
  dsimp only
  split
  · rfl
  · rfl

theorem stageSlice_one_off {z : C32} (hon : s.on .slice = true) (hscan : s.on .scan = false) (hxs : s.work.xs = [z]) :
    stageSlice Params.default s =
      sliceSymbol Params.default (s.withStream []) (slicerInput Params.default s.cfg z) := by
  rw [stageSlice_one hon hxs, stageScan, if_neg]
  rw [State.Of.on, sliceSymbol_cfg]
  exact Bool.eq_false_iff.mp hscan

/-! ## With and without the scanner -/

/-- The configuration with the scanner off. -/
def scanOff (f : CsrFile) : CsrFile := f.set .stageEn (f.get .stageEn &&& 0xFFF7FFFF#32)

theorem scanOff_stageOn (f : CsrFile) {k : Stage} (hk : k ≠ .scan) : (scanOff f).stageOn k = f.stageOn k := by
  have hmask : (0xFFF7FFFF#32).getLsbD k.bit = true := by
    revert hk
    cases k <;> decide
  rw [CsrFile.stageOn, scanOff, CsrFile.get_set, BitVec.getLsbD_and, hmask, Bool.and_true, CsrFile.stageOn]

theorem scanOff_scan (f : CsrFile) : (scanOff f).stageOn .scan = false := by
  rw [CsrFile.stageOn, scanOff, CsrFile.get_set, BitVec.getLsbD_and]
  simp [Stage.bit]

theorem scanOff_get (f : CsrFile) {r : Rw} (hr : r ≠ .stageEn) : (scanOff f).get r = f.get r :=
  CsrFile.get_set_ne _ _ _ _ hr

/-- The chain up to the scanner reads the configuration without STAGE_EN.SCAN. -/
theorem sliceSymbol_scanOff (t : State) (x : F32) :
    sliceSymbol Params.default { t with cfg := scanOff t.cfg } x =
      { sliceSymbol Params.default t x with cfg := scanOff t.cfg } := by
  have hcq : State.Of.cq { t with cfg := scanOff t.cfg } = t.cq := by
    simp only [State.Of.cq, CsrFile.cqpsk, CsrFile.field, scanOff_get t.cfg (show Rw.mode ≠ .stageEn by decide)]
  have hperm : State.Of.permOn { t with cfg := scanOff t.cfg } = t.permOn := by
    simp only [State.Of.permOn, hcq, State.Of.on, scanOff_stageOn t.cfg (show Stage.perm ≠ .scan by decide)]
  have hcorrect : State.Of.correct { t with cfg := scanOff t.cfg } = t.correct := by
    funext d
    simp only [State.Of.correct, hperm]
  have hdibit : State.Of.dibitOf .binary32 { t with cfg := scanOff t.cfg } x = t.dibitOf .binary32 x := by
    simp only [State.Of.dibitOf, hcq]
  have hrel : State.Of.reliability Params.default { t with cfg := scanOff t.cfg } x = t.reliability Params.default x := by
    simp only [State.Of.reliability, hcq]
  have hsize : ∀ r n, r ≠ Rw.stageEn → (scanOff t.cfg).field r 0 n = t.cfg.field r 0 n := by
    intro r n hr
    simp only [CsrFile.field, scanOff_get t.cfg hr]
  have hroll : ∀ h : History F32,
      rolling .binary32 { t with cfg := scanOff t.cfg, sh := h } =
        { rolling .binary32 { t with sh := h } with cfg := scanOff t.cfg } := by
    intro h
    simp only [rolling, hsize .slSsize 12 (by decide), hsize .slMsize 11 (by decide)]
  unfold sliceSymbol
  simp only [hcorrect, hdibit, hrel, hcq, hroll]
  by_cases hc : t.cq = true
  · simp only [hc, if_true]
    rfl
  · simp only [hc]
    rfl

theorem slicerInput_scanOff (f : CsrFile) (z : C32) :
    slicerInput Params.default (scanOff f) z = slicerInput Params.default f z := by
  simp only [slicerInput, CsrFile.cqpsk, CsrFile.field, CsrFile.realAs, CsrFile.real,
    scanOff_get f (show Rw.mode ≠ .stageEn by decide), scanOff_get f (show Rw.symScale ≠ .stageEn by decide)]
  rfl

theorem withCfg_self {t : State} {c : CsrFile} (h : t.cfg = c) : { t with cfg := c } = t := by
  subst h
  rfl

/-- One symbol with the scanner on is the same symbol with it off, and then STAGE.SCAN (R458, R512). -/
theorem exec_slice_scan {z : C32} (hon : s.on .slice = true) (hxs : s.work.xs = [z]) :
    ∃ u v : State,
      exec .stageSlice { s with cfg := scanOff s.cfg } = .next u ∧
        exec .stageScan { u with cfg := s.cfg } = .next v ∧ exec .stageSlice s = .next v := by
  have hslice : State.Of.on { s with cfg := scanOff s.cfg } .slice = true :=
    (scanOff_stageOn s.cfg (show Stage.slice ≠ .scan by decide)).trans hon
  have hfirst := stageSlice_one_off (s := { s with cfg := scanOff s.cfg }) hslice (scanOff_scan s.cfg) hxs
  have hsame := sliceSymbol_scanOff (s.withStream []) (slicerInput Params.default s.cfg z)
  have hback := withCfg_self (c := s.cfg) (sliceSymbol_cfg (s.withStream []) (slicerInput Params.default s.cfg z))
  refine ⟨_, _, congrArg Host.Outcome.next (hfirst.trans ((congrArg _ (slicerInput_scanOff s.cfg z)).trans hsame)), rfl,
    congrArg Host.Outcome.next ((stageSlice_one hon hxs).trans (congrArg (stageScan Params.default) hback).symm)⟩

/-! ## The two paths -/

theorem correct_eq (d : Dibit) :
    s.correct d = if s.cfg.cqpsk = true ∧ s.on .perm = true ∧ s.permLock = true then s.perm.apply d else d := by
  simp only [State.Of.correct, State.Of.permOn, State.Of.cq, Bool.and_eq_true, and_assoc]

/-- The chain up to the scanner on the CQPSK path (R458). -/
theorem sliceSymbol_cq {t : State} (hcq : t.cq = true) {x : F32} {d dout : Dibit} {rel : Rel}
    (hd : t.dibitOf .binary32 x = d) (hdout : t.correct d = dout) (hrel : t.reliability Params.default x = rel) :
    sliceSymbol Params.default t x =
      { t with
        symcount := t.symcount + 1
        sh := t.sh.push x dout rel
        ports := { t.ports with symOut := t.ports.symOut ++ [⟨dout, rel, x, t.symcount⟩] }
        work := { t.work with nsym := t.work.nsym + 1, d := d } } := by
  subst hd hdout hrel
  unfold sliceSymbol
  simp only [hcq, if_true]
  rfl

/-- The chain up to the scanner on the FM family (R458, R460). -/
theorem sliceSymbol_fm {t : State} (hcq : t.cq = false) {x : F32} {d : Dibit} {rel : Rel} {hi lo : F32} {free : Nat}
    (hd : t.dibitOf .binary32 x = d) (hrel : t.reliability Params.default x = rel)
    (hwin : windowExtremes .binary32 t.free
      ((t.sh.push x d rel).newest .binary32 (min (t.cfg.field .slSsize 0 12) (t.sh.push x d rel).n)) = (hi, lo, free)) :
    sliceSymbol Params.default t x =
      { t with
        sl := t.sl.roll .binary32 (t.cfg.field .slMsize 0 11) hi lo
        free := free
        symcount := t.symcount + 1
        sh := t.sh.push x d rel
        ports := { t.ports with symOut := t.ports.symOut ++ [⟨d, rel, x, t.symcount⟩] }
        work := { t.work with nsym := t.work.nsym + 1, d := d } } := by
  subst hd hrel
  have hdout : t.correct (t.dibitOf .binary32 x) = t.dibitOf .binary32 x := by
    rw [correct_eq, if_neg]
    exact fun h => absurd h.1 (Bool.eq_false_iff.mp hcq)
  unfold sliceSymbol
  simp only [hdout, hcq, rolling, Bool.false_eq_true, if_false, hwin]
  rfl

/-- Settles O51: the chain of the CQPSK path on one symbol, the scanner after it, and the reliability. -/
theorem sliceSymbolCqpsk : Obligations.SliceSymbolCqpsk := by
  unfold Obligations.SliceSymbolCqpsk
  refine ⟨fun s z hon hcq hscan hxs => ?_, fun s z hon _ _ hxs => exec_slice_scan hon hxs, relCq_of_finite⟩
  intro x v d dout
  have hd : s.dibitOf .binary32 x = d := by
    rw [State.Of.dibitOf, if_pos (show s.cq = true from hcq)]
    rfl
  have hdout : s.correct d = dout := by
    rw [correct_eq, hcq]
    simp only [true_and]
    rfl
  have hrel : s.reliability Params.default x = relCq Params.default s.sl x := if_pos hcq
  have hinput : slicerInput Params.default s.cfg z = x := by
    rw [slicerInput, if_pos hcq]
    rfl
  refine congrArg Host.Outcome.next ?_
  rw [stageSlice_one_off hon hscan hxs, hinput,
    sliceSymbol_cq (t := s.withStream []) (d := d) (dout := dout) (rel := relCq Params.default s.sl x) hcq hd hdout hrel]
  rfl

/-- Settles O50: the chain of the FM family on one symbol with its rolling update, the scanner after it, the reliability. -/
theorem sliceSymbolFm : Obligations.SliceSymbolFm := by
  unfold Obligations.SliceSymbolFm
  refine ⟨fun s z hon hcq hscan hxs => ?_, fun s z hon _ _ hxs => exec_slice_scan hon hxs, relFm_of_finite⟩
  intro x d ms ss
  have hd : s.dibitOf .binary32 x = d := by
    rw [State.Of.dibitOf, if_neg (show ¬ s.cq = true from Bool.eq_false_iff.mp hcq)]
    rfl
  have hrel : s.reliability Params.default x = relFm Params.default s.sl x := if_neg (Bool.eq_false_iff.mp hcq)
  have hinput : slicerInput Params.default s.cfg z = x := by
    rw [slicerInput, if_neg (Bool.eq_false_iff.mp hcq)]
    rfl
  have hms : s.cfg.field .slMsize 0 11 = ms := Commands.field_zero ..
  have hss : s.cfg.field .slSsize 0 12 = ss := Commands.field_zero ..
  obtain ⟨sh, hsh⟩ : ∃ sh, s.sh.push x d (relFm Params.default s.sl x) = sh := ⟨_, rfl⟩
  obtain ⟨⟨hi, lo, free⟩, hwin⟩ : ∃ e, windowExtremes .binary32 s.free (window sh (min ss sh.n)) = e := ⟨_, rfl⟩
  have hslice := sliceSymbol_fm (t := s.withStream []) (x := x) (d := d) (rel := relFm Params.default s.sl x) hcq hd hrel
    (hi := hi) (lo := lo) (free := free) (by
      rw [newest_eq]
      change windowExtremes .binary32 s.free (window (s.sh.push x d (relFm Params.default s.sl x))
        (min (s.cfg.field .slSsize 0 12) (s.sh.push x d (relFm Params.default s.sl x)).n)) = _
      rw [hsh, hss]
      exact hwin)
  have hexec : exec .stageSlice s = .next _ := congrArg Host.Outcome.next
    ((stageSlice_one_off hon hscan hxs).trans ((congrArg _ hinput).trans hslice))
  rw [show (s.withStream []).cfg = s.cfg from rfl, hms] at hexec
  rw [show State.Of.sl (s.withStream []) = s.sl from rfl, roll_eq, derive_eq] at hexec
  refine ⟨_, hexec, rfl, rfl, rfl, rfl, rfl, rfl, rfl, rfl, ?_⟩
  intro win i hss1 _ hms2 hmaxlen hminlen hnan
  have hwindow : win = window sh (min ss sh.n) := by
    rw [← hsh]
    rfl
  have hn : 1 ≤ sh.n := by
    rw [← hsh]
    exact le_min (Nat.le_add_left ..) (by decide)
  have hne : window sh (min ss sh.n) ≠ [] := by
    rw [window, ne_eq, List.map_eq_nil_iff, List.range_eq_nil]
    omega
  rw [hwindow] at hnan ⊢
  obtain ⟨hi', hhi, lo', hlo, hmax, hmin, hextremes⟩ := windowExtremes_spec hne hnan s.free
  obtain ⟨rfl, rfl, rfl⟩ : hi = hi' ∧ lo = lo' ∧ free = s.free := by
    simpa only [Prod.mk.injEq] using hwin.symm.trans hextremes
  have hmean : ∀ l : List F32, l.length = 1024 →
      F32.mean (l.take (min (s.sl.fill + 1) ms)) =
        F32.div (F32.sum (l.take (min (s.sl.fill + 1) ms))) (F32.ofNat (min (s.sl.fill + 1) ms)) := by
    intro l hl
    have hle : min (s.sl.fill + 1) ms ≤ l.length := by omega
    rw [mean_eq, List.length_take, Nat.min_eq_left hle]
  exact ⟨hi, hhi, lo, hlo, hmax, hmin, rfl, rfl, hmean _ (by rw [List.length_set]; exact hmaxlen),
    hmean _ (by rw [List.length_set]; exact hminlen), rfl⟩

end

end Sys2Proof.Proofs.Slicing
end

section
/-! PROOF. The permutation search (R520, R521) and the frame sync scanner (R512): distances by place, the first candidate, the
first matching entry; O54, O52. -/

namespace Sys2Proof.Proofs.Sync
open Sys2Proof Sys2Proof.Machine

/-! ## Distances (R512, R520) -/

/-- The window of the shift register by place, oldest first. -/
theorem srWindow_eq {sr : List Dibit} {n : Nat} (h : n ≤ sr.length) :
    srWindow sr n = (List.range n).map (fun i => sr.getD (n - 1 - i) 0#2) := by
  refine List.ext_getElem (by simp [srWindow, h]) fun i h1 h2 => ?_
  have hi : i < n := by simpa using h2
  have hlen : (sr.take n).length = n := by rw [List.length_take]; omega
  rw [List.getElem_map, List.getElem_range, List.getD_eq_getElem _ _ (by omega)]
  simp only [srWindow, List.getElem_reverse, List.getElem_take, hlen]

/-- The distance of a mapped window and a pattern as a count of places. -/
theorem mismatches_eq (f : Dibit → Dibit) {sr pattern : List Dibit} (h : pattern.length ≤ sr.length) :
    mismatches f (srWindow sr pattern.length) pattern =
      ((List.range pattern.length).filter
        (fun i => decide (f (sr.getD (pattern.length - 1 - i) 0#2) ≠ pattern.getD i 0#2))).length := by
  have hpattern : pattern = (List.range pattern.length).map (fun i => pattern.getD i 0#2) := by
    refine List.ext_getElem (by simp) fun i h1 h2 => ?_
    rw [List.getElem_map, List.getElem_range, List.getD_eq_getElem _ _ h1]
  unfold mismatches
  rw [srWindow_eq h]
  conv_lhs => rw [hpattern]
  rw [List.length_map, List.length_range, List.zipWith_map, List.zipWith_self, List.countP_map, List.countP_eq_length_filter]
  congr 1
  refine List.filter_congr fun i _ => ?_
  simp [bne, beq_eq_decide]

theorem invertPattern_length (inv : Bool) (p : List Dibit) : (invertPattern inv p).length = p.length := by
  unfold invertPattern
  split <;> simp

theorem invertPattern_getD (inv : Bool) {p : List Dibit} {i : Nat} (hi : i < p.length) :
    (invertPattern inv p).getD i 0#2 = if inv = true then p.getD i 0#2 ^^^ 2#2 else p.getD i 0#2 := by
  unfold invertPattern
  split
  · rw [List.getD_eq_getElem _ _ (by rw [List.length_map]; exact hi), List.getElem_map, List.getD_eq_getElem _ _ hi]
  · rfl

/-- The distance to a pattern in a polarity, place by place. -/
theorem mismatches_invertPattern (f : Dibit → Dibit) (inv : Bool) {sr p : List Dibit} (h : p.length ≤ sr.length) :
    mismatches f (srWindow sr p.length) (invertPattern inv p) =
      ((List.range p.length).filter (fun i => decide (f (sr.getD (p.length - 1 - i) 0#2) ≠
        if inv = true then p.getD i 0#2 ^^^ 2#2 else p.getD i 0#2))).length := by
  have hm := mismatches_eq f (sr := sr) (pattern := invertPattern inv p) (by rw [invertPattern_length]; exact h)
  rw [invertPattern_length] at hm
  rw [hm]
  congr 1
  refine List.filter_congr fun i hi => ?_
  rw [invertPattern_getD inv (List.mem_range.mp hi)]

/-! ## The permutation search (R520, R521) -/

theorem apply_eq (p : Perm) (d : Dibit) : p.apply d = [p.p0, p.p1, p.p2, p.p3].getD d.toNat 0#2 := by
  have hd : d = 0#2 ∨ d = 1#2 ∨ d = 2#2 ∨ d = 3#2 := by revert d; decide
  rcases hd with rfl | rfl | rfl | rfl <;> rfl

/-- Dibit `i` of the expected sync: that of the P25P1 pattern, inverted where SYNC_POL bit 0 is 1. -/
def expectedDibit (f : CsrFile) (i : Nat) : Dibit :=
  if (f.get .syncPol).getLsbD 0 = true then BitVec.ofNat 2 (0x5575F5FF77FF / 4 ^ (23 - i)) ^^^ 2#2
  else BitVec.ofNat 2 (0x5575F5FF77FF / 4 ^ (23 - i))

/-- The distance of a permutation, place by place. -/
theorem permDist_eq {s : State} (h : s.sync.sr.length = 64) (p : Perm) :
    permDist Params.default s p =
      ((List.range 24).filter (fun i =>
        decide ([p.p0, p.p1, p.p2, p.p3].getD (s.sync.sr.getD (23 - i) 0#2).toNat 0#2 ≠ expectedDibit s.cfg i))).length := by
  have hpattern : Params.default.p25p1 = (List.range 24).map (fun i => BitVec.ofNat 2 (0x5575F5FF77FF / 4 ^ (23 - i))) := by
    decide
  have hlen : Params.default.p25p1.length = 24 := by rw [hpattern, List.length_map, List.length_range]
  have hm := mismatches_invertPattern p.apply ((s.cfg.get .syncPol).getLsbD 0) (sr := s.sync.sr)
    (p := Params.default.p25p1) (by omega)
  rw [hlen] at hm
  rw [permDist, permTarget, hm]
  congr 1
  refine List.filter_congr fun i hi => ?_
  have hget : Params.default.p25p1.getD i 0#2 = BitVec.ofNat 2 (0x5575F5FF77FF / 4 ^ (23 - i)) := by
    rw [hpattern, List.getD_eq_getElem _ _ (by simpa using hi), List.getElem_map, List.getElem_range]
  rw [hget, apply_eq]
  rfl

theorem stagePerm_on {s : State} (hcq : s.cfg.cqpsk = true) (hon : s.on .perm = true) :
    stagePerm Params.default s = permStep Params.default s :=
  if_pos (by rw [State.Of.permOn, State.Of.cq, hcq, hon]; rfl)

/-- Settles O54: the candidates are those of the model, and the search takes the first within the threshold. -/
theorem permutationSearchStep : Obligations.PermutationSearchStep := by
  unfold Obligations.PermutationSearchStep
  intro s hcq hon thr expected dist candidates
  have hexec : exec .stagePerm s = .next (permStep Params.default s) :=
    congrArg Host.Outcome.next (stagePerm_on hcq hon)
  have hthr : s.cfg.field .permThr 0 8 = thr := Commands.field_zero ..
  have hcandidates : permCandidates = candidates := by decide
  rw [hexec]
  refine ⟨fun hn => congrArg _ (if_pos hn), fun hlen => ?_⟩
  have hdist : ∀ p, permDist Params.default s p = dist p := fun p => permDist_eq hlen p
  have hstep : permStep Params.default s =
      if s.sync.srn < 24 then s
      else if s.permLock && decide (dist s.perm ≤ thr) then s
      else match candidates.find? (fun π => decide (dist π ≤ thr)) with
        | some π => { s with perm := π, permLock := true }
        | none => s := by
    unfold permStep
    simp only [hdist, hthr, hcandidates] <;> rfl
  rw [hstep]
  clear_value thr dist candidates
  refine ⟨fun hlock hle => ?_, fun hn hlost => ?_⟩
  · split
    · rfl
    · rw [if_pos (by rw [hlock, decide_eq_true hle]; rfl)]
  · have hlost' : ¬ (s.permLock && decide (dist s.perm ≤ thr)) = true := by
      rw [Bool.and_eq_true, decide_eq_true_eq]
      rintro ⟨hlock, hle⟩
      rcases hlost with hl | hl
      · exact absurd hlock (Bool.eq_false_iff.mp hl)
      · omega
    rw [if_neg (by omega), if_neg hlost']
    refine ⟨fun p before after hc hp hbefore => ?_, fun hall => ?_⟩
    · have hfind : candidates.find? (fun π => decide (dist π ≤ thr)) = some p := by
        rw [List.find?_eq_some_iff_append]
        exact ⟨decide_eq_true hp, before, after, hc, fun q hq => by simpa using hbefore q hq⟩
      rw [hfind]
    · have hfind : candidates.find? (fun π => decide (dist π ≤ thr)) = none := by
        rw [List.find?_eq_none]
        exact fun q hq => by simpa using hall q hq
      rw [hfind]

/-! ## The scanner (R512) -/

section
variable {R : Type} {p : Params R} {s : State.Of R}

/-- An entry matches where its pattern is given, its protocol is enabled, it exists in the polarity under test, the register
holds enough dibits, and few enough of them differ. -/
theorem entryMatches_iff (s : State.Of R) (e : SyncEntry) :
    entryMatches s e = true ↔
      ∃ w, e.pattern = some w ∧ (s.cfg.get .syncProtoEn).getLsbD e.proto = true ∧
        (entryInverted s.cfg e = true → e.invertedId ≠ none) ∧ w.length ≤ s.sync.srn ∧
        mismatches s.correct (srWindow s.sync.sr w.length) (invertPattern (entryInverted s.cfg e) w) ≤
          (s.cfg.get .syncTol).toNat % 256 := by
  have htol : s.cfg.field .syncTol 0 8 = (s.cfg.get .syncTol).toNat % 256 := Commands.field_zero ..
  unfold entryMatches
  rw [htol]
  cases hp : e.pattern with
  | none => simp
  | some w =>
    simp only [Option.some.injEq, exists_eq_left', Bool.and_eq_true, decide_eq_true_eq, Bool.not_eq_true', and_assoc,
      Bool.and_eq_false_iff]
    refine and_congr Iff.rfl (and_congr ?_ Iff.rfl)
    cases entryInverted s.cfg e <;> cases e.invertedId <;> simp

/-- Where a scanner's search of the permutation leaves the register and the record. -/
theorem stagePerm_srPush (p : Params R) (s : State.Of R) (d : Dibit) :
    stagePerm p (srPush s d) =
      { srPush s d with perm := (stagePerm p (srPush s d)).perm, permLock := (stagePerm p (srPush s d)).permLock } :=
  stagePerm_frame p (srPush s d)

theorem scan_of_match {d : Dibit} {before after : List SyncEntry} {e : SyncEntry} (htable : p.syncTable = before ++ e :: after)
    (he : entryMatches (stagePerm p (srPush s d)) e = true)
    (hbefore : ∀ f ∈ before, entryMatches (stagePerm p (srPush s d)) f ≠ true) :
    scan p s d = detect p (stagePerm p (srPush s d)) e := by
  have hfind : p.syncTable.find? (entryMatches (stagePerm p (srPush s d))) = some e := by
    rw [List.find?_eq_some_iff_append]
    exact ⟨he, before, after, htable, fun f hf => by simpa using hbefore f hf⟩
  unfold scan
  dsimp only
  rw [hfind]

theorem scan_of_no_match {d : Dibit} (h : ∀ e ∈ p.syncTable, entryMatches (stagePerm p (srPush s d)) e ≠ true) :
    scan p s d = stagePerm p (srPush s d) := by
  have hfind : p.syncTable.find? (entryMatches (stagePerm p (srPush s d))) = none := by
    rw [List.find?_eq_none]
    exact h
  unfold scan
  dsimp only
  rw [hfind]

end

/-- The first part of O52: what a scanner step can do at the default parameters. -/
theorem stageScan_cases {s : State} (hon : s.on .scan = true) :
    ∃ t, exec .stageScan s = .next t ∧ t.sync.sr = (s.work.d :: s.sync.sr).take s.sync.sr.length ∧
      t.symcount = s.symcount ∧ t.ports.symOut = s.ports.symOut ∧ t.csr = s.csr ∧ t.cfg = s.cfg ∧
      ((t.ports.syncOut = s.ports.syncOut ∧ t.sync.type = s.sync.type ∧ t.sync.last = s.sync.last ∧
          t.sync.pos = s.sync.pos ∧ t.sync.srn = min (s.sync.srn + 1) 64 ∧ t.sl = s.sl) ∨
        ∃ (e : SyncEntry) (p : List Dibit) (ev : SyncEvent), e ∈ Params.default.syncTable ∧ e.pattern = some p ∧
          p.length ≤ min (s.sync.srn + 1) 64 ∧
          (s.cfg.get .syncProtoEn).getLsbD e.proto = true ∧
          (if (s.cfg.get .syncPol).getLsbD e.proto = true then e.invertedId = some ev.synctype
            else e.normalId = ev.synctype) ∧
          t.ports.syncOut = s.ports.syncOut ++ [ev] ∧ t.sync.type = ev.synctype ∧ t.sync.last = s.sync.type ∧
          t.sync.pos = s.symcount - 1 ∧ ev.pos = s.symcount - 1 ∧ t.sync.srn = 0) := by
  have hexec : exec .stageScan s = .next (scan Params.default s s.work.d) := congrArg Host.Outcome.next (if_pos hon)
  refine ⟨_, hexec, ?_⟩
  have hperm := stagePerm_srPush Params.default s s.work.d
  generalize (stagePerm Params.default (srPush s s.work.d)).perm = π at hperm
  generalize (stagePerm Params.default (srPush s s.work.d)).permLock = lock at hperm
  cases hfind : Params.default.syncTable.find? (entryMatches (stagePerm Params.default (srPush s s.work.d))) with
  | none =>
    rw [List.find?_eq_none] at hfind
    rw [scan_of_no_match hfind, hperm]
    exact ⟨rfl, rfl, rfl, rfl, rfl, .inl ⟨rfl, rfl, rfl, rfl, rfl, rfl⟩⟩
  | some e =>
    obtain ⟨he, before, after, htable, hbefore⟩ := List.find?_eq_some_iff_append.mp hfind
    rw [scan_of_match htable he (fun f hf => by simpa using hbefore f hf)]
    obtain ⟨w, hw, hproto, hinv, hlen, -⟩ := (entryMatches_iff _ e).mp he
    obtain ⟨dmr, sl, lastWs, sh, free, ws, ros, -, hdetect⟩ := Steps.detect_spec Params.default
      (stagePerm Params.default (srPush s s.work.d)) e
    rw [hdetect]
    rw [hperm] at hproto hinv hlen ⊢
    refine ⟨rfl, rfl, rfl, rfl, rfl, .inr ⟨e, w, _, htable ▸ by simp, hw, hlen, hproto, ?_, rfl, rfl, rfl, rfl, rfl, rfl⟩⟩
    change if entryInverted s.cfg e = true then e.invertedId = some (entryId s.cfg e) else e.normalId = entryId s.cfg e
    unfold entryId
    split
    · next hi =>
      obtain ⟨i, hi'⟩ := Option.ne_none_iff_exists'.mp (hinv hi)
      rw [hi']
      rfl
    · rfl

section
variable {R : Type} {p : Params R} {s : State.Of R}

theorem syncLen_eq (e : SyncEntry) : e.syncLen = e.listedLen.getD (e.pattern.getD []).length := by
  unfold SyncEntry.syncLen
  split <;> rename_i h <;> rw [h] <;> rfl

/-- A detection as the stage it runs and the event it pushes (R512). -/
theorem detect_eq (p : Params R) (u : State.Of R) (e : SyncEntry) :
    ∃ v : State.Of R,
      execWith p (if e.proto = 4 ∧ u.on .dmrRos = true then .stageDmrRos else .stageWs)
          { u with
            sync := { u.sync with type := entryId u.cfg e, last := u.sync.type, pos := u.symcount - 1 }
            work := { u.work with syncLen := e.listedLen.getD (e.pattern.getD []).length, ws := 7#3, ros := none } } =
        .next v ∧
      detect p u e =
        { v with
          sync := { v.sync with srn := 0 }
          ports :=
            { v.ports with
              syncOut := u.ports.syncOut ++
                [⟨entryId u.cfg e, u.symcount - 1, v.work.ws,
                  if (u.cfg.cqpsk && u.on .perm) = true then u.perm.p3 ++ u.perm.p2 ++ u.perm.p1 ++ u.perm.p0 else 0#8,
                  v.work.ros⟩] } } := by
  have hstart : detectStart u e =
      { u with
        sync := { u.sync with type := entryId u.cfg e, last := u.sync.type, pos := u.symcount - 1 }
        work := { u.work with syncLen := e.listedLen.getD (e.pattern.getD []).length, ws := 7#3, ros := none } } := by
    rw [← syncLen_eq]
    rfl
  rw [← hstart]
  have hcond : (e.proto = 4 ∧ u.on .dmrRos = true) = (e.proto = dmrProto ∧ (detectStart u e).on .dmrRos = true) := rfl
  obtain ⟨dmr, sl, lastWs, sh, free, ws, ros, -, hbody⟩ := Steps.detectBody_spec p (detectStart u e)
    (e.proto = dmrProto ∧ (detectStart u e).on .dmrRos = true)
  refine ⟨if e.proto = dmrProto ∧ (detectStart u e).on .dmrRos = true then stageDmrRos p (detectStart u e)
    else stageWs p.real (detectStart u e), ?_, ?_⟩
  · by_cases hd : e.proto = dmrProto ∧ (detectStart u e).on .dmrRos = true
    · rw [if_pos hd, if_pos (hcond ▸ hd)]
      rfl
    · rw [if_neg hd, if_neg (hcond ▸ hd)]
      rfl
  · unfold detect
    dsimp only
    rw [hbody]
    rfl

/-- The second part of O52: what a scanner step does, for any parameters. -/
theorem stageScan_step (hon : s.on .scan = true) (hlen : s.sync.sr.length = 64) :
    ∃ u : State.Of R,
      execWith p .stagePerm
          { s with sync := { s.sync with sr := (s.work.d :: s.sync.sr).take 64, srn := min (s.sync.srn + 1) 64 } } =
        .next u ∧
      (∀ e, entryMatches u e = true ↔
        ∃ w, e.pattern = some w ∧ (s.cfg.get .syncProtoEn).getLsbD e.proto = true ∧
          ((s.cfg.get .syncPol).getLsbD e.proto = true → e.invertedId ≠ none) ∧ w.length ≤ u.sync.srn ∧
          ((List.range w.length).filter (fun i => decide (
            (if (s.cfg.cqpsk && s.on .perm) = true ∧ u.permLock = true then u.perm.apply (u.sync.sr.getD (w.length - 1 - i) 0#2)
              else u.sync.sr.getD (w.length - 1 - i) 0#2) ≠
            (if (s.cfg.get .syncPol).getLsbD e.proto = true then w.getD i 0#2 ^^^ 2#2 else w.getD i 0#2)))).length ≤
              (s.cfg.get .syncTol).toNat % 256) ∧
      u = { s with
        sync := { s.sync with sr := (s.work.d :: s.sync.sr).take 64, srn := min (s.sync.srn + 1) 64 }
        perm := u.perm, permLock := u.permLock } ∧
      (((∀ e ∈ p.syncTable, ¬ entryMatches u e = true) → execWith p .stageScan s = .next u) ∧
        (∀ (before after : List SyncEntry) (e : SyncEntry), p.syncTable = before ++ e :: after → entryMatches u e = true →
          (∀ f ∈ before, ¬ entryMatches u f = true) → execWith p .stageScan s = .next (detect p u e))) := by
  have hpush : srPush s s.work.d =
      { s with sync := { s.sync with sr := (s.work.d :: s.sync.sr).take 64, srn := min (s.sync.srn + 1) 64 } } := by
    rw [srPush, push, hlen]
    rfl
  have hexec : execWith p .stageScan s = .next (scan p s s.work.d) := congrArg Host.Outcome.next (if_pos hon)
  have hu := stagePerm_srPush p s s.work.d
  rw [hpush] at hu
  refine ⟨stagePerm p (srPush s s.work.d), by rw [hpush]; rfl, fun e => ?_, by rw [hpush]; exact hu, fun h => ?_,
    fun before after e htable he hbefore => ?_⟩
  · rw [hpush]
    generalize stagePerm p { s with sync :=
      { s.sync with sr := (s.work.d :: s.sync.sr).take 64, srn := min (s.sync.srn + 1) 64 } } = u at hu ⊢
    have hcfg : u.cfg = s.cfg := by rw [hu]
    have hsr : u.sync.sr.length = 64 := by
      rw [hu]
      dsimp only
      rw [List.length_take, List.length_cons]
      omega
    have hsrn : u.sync.srn ≤ 64 := by
      rw [hu]
      exact Nat.min_le_right ..
    rw [entryMatches_iff, hcfg]
    refine exists_congr fun w => and_congr_right fun _ => and_congr_right fun _ => and_congr_right fun _ =>
      and_congr_right fun hw => ?_
    rw [mismatches_invertPattern _ _ (by omega)]
    have hcorrect : ∀ d, u.correct d =
        if (s.cfg.cqpsk && s.on .perm) = true ∧ u.permLock = true then u.perm.apply d else d := by
      intro d
      have hpermOn : u.permOn = (s.cfg.cqpsk && s.on .perm) := by
        rw [State.Of.permOn, State.Of.cq, State.Of.on, hcfg]
        rfl
      simp only [State.Of.correct, hpermOn, Bool.and_eq_true]
    simp only [hcorrect]
    rfl
  · rw [hexec, scan_of_no_match h]
  · rw [hexec, scan_of_match htable he hbefore]

end

/-- Settles O52: what a step can do, which entry it takes with any parameters, and the default's table. -/
theorem scannerStep : Obligations.ScannerStep := by
  unfold Obligations.ScannerStep
  refine ⟨fun s hon => stageScan_cases hon, fun R p s hon hlen => ?_, by decide⟩
  obtain ⟨u, hperm, hmatch, hu, hnone, hfirst⟩ := stageScan_step (p := p) hon hlen
  refine ⟨u, hperm, ?_⟩
  intro permOn inverted differs matching
  have hmatching : ∀ e, entryMatches u e = true ↔ matching e := hmatch
  refine ⟨fun h => hnone fun e he hm => h e he ((hmatching e).mp hm), fun before after e htable he hbefore => ?_⟩
  intro id
  obtain ⟨v, hv, hdetect⟩ := detect_eq p u e
  rw [hfirst before after e htable ((hmatching e).mpr he) fun f hf hm => hbefore f hf ((hmatching f).mp hm), hdetect]
  have hcfg : u.cfg = s.cfg := by rw [hu]
  have hon' : ∀ k, u.on k = s.on k := fun k => by rw [State.Of.on, hcfg]; rfl
  have hid : entryId u.cfg e = id := by rw [hcfg]; rfl
  have htype : u.sync.type = s.sync.type := by rw [hu]
  have hcount : u.symcount = s.symcount := by rw [hu]
  have hwork : u.work = s.work := by rw [hu]
  have hports : u.ports.syncOut = s.ports.syncOut := by rw [hu]
  rw [hid, htype, hwork, hon'] at hv
  rw [← hcount]
  refine ⟨v, hv, ?_⟩
  rw [hid, hports, hcfg, hon']

end Sys2Proof.Proofs.Sync
end

section
/-! PROOF. The designed sets (R264): each design step as one update of its own set and key, and the stages, which change no
designed coefficient. -/

namespace Sys2Proof.Proofs.Design
open Sys2Proof Sys2Proof.Machine

/-! ## What the stages keep -/

/-- The designed coefficients: of the band-edge FLL, the TED, the one-pole filters, the channel LPF and the resampler. -/
structure Coefficients (R : Type) where
  be : List (Cplx R) × List (Cplx R) × R × R × R
  ted : R × Nat
  filters : R × R × List R × List R

section
variable {R : Type}

def coefficients (s : State.Of R) : Coefficients R :=
  ⟨(s.be.up, s.be.lo, s.be.alpha, s.be.beta, s.be.fmax), (s.ted.omega, s.ted.twiceSps),
    (s.de.a, s.al.a, s.ch.taps, s.rs.taps)⟩

@[simp] theorem stageFs4_coefficients (F : RealFormat R) (s : State.Of R) :
    coefficients (stageFs4 F s) = coefficients s := by
  rw [stageFs4_frame]; rfl
@[simp] theorem stageHb_coefficients (p : Params R) (s : State.Of R) : coefficients (stageHb p s) = coefficients s := by
  rw [stageHb_frame]; rfl
@[simp] theorem stageDcb_coefficients (F : RealFormat R) (s : State.Of R) :
    coefficients (stageDcb F s) = coefficients s := by
  rw [stageDcb_frame]; rfl
@[simp] theorem stageAgc_coefficients (F : RealFormat R) (s : State.Of R) :
    coefficients (stageAgc F s) = coefficients s := by
  rw [stageAgc_frame]; rfl
@[simp] theorem stageLim_coefficients (F : RealFormat R) (s : State.Of R) :
    coefficients (stageLim F s) = coefficients s := by
  rw [stageLim_frame]; rfl
@[simp] theorem stageIqb_coefficients (F : RealFormat R) (s : State.Of R) :
    coefficients (stageIqb F s) = coefficients s := by
  rw [stageIqb_frame]; rfl
@[simp] theorem stageBefll_coefficients (F : RealFormat R) (s : State.Of R) :
    coefficients (stageBefll F s) = coefficients s := by
  rw [stageBefll_frame, Stages.stageBefll_be]; rfl
@[simp] theorem stageEq_coefficients (F : RealFormat R) (s : State.Of R) :
    coefficients (stageEq F s) = coefficients s := by
  rw [stageEq_frame]; rfl
@[simp] theorem stageLfll_coefficients (F : RealFormat R) (s : State.Of R) :
    coefficients (stageLfll F s) = coefficients s := by
  rw [stageLfll_frame]; rfl
@[simp] theorem stageDisc_coefficients (p : Params R) (s : State.Of R) :
    coefficients (stageDisc p s) = coefficients s := by
  rw [stageDisc_frame]; rfl
@[simp] theorem realStream_coefficients (F : RealFormat R) (s : State.Of R) :
    coefficients (realStream F s) = coefficients s := rfl
@[simp] theorem stageDeemph_coefficients (F : RealFormat R) (s : State.Of R) :
    coefficients (stageDeemph F s) = coefficients s := by
  rw [stageDeemph_frame, Stages.stageDeemph_de]; rfl
@[simp] theorem stageChlpf_coefficients (F : RealFormat R) (s : State.Of R) :
    coefficients (stageChlpf F s) = coefficients s := by
  rw [stageChlpf_frame, Stages.stageChlpf_ch]; rfl
@[simp] theorem stageAlpf_coefficients (F : RealFormat R) (s : State.Of R) :
    coefficients (stageAlpf F s) = coefficients s := by
  rw [stageAlpf_frame, Stages.stageAlpf_al]; rfl
@[simp] theorem stageResamp_coefficients (F : RealFormat R) (s : State.Of R) :
    coefficients (stageResamp F s) = coefficients s := by
  rw [stageResamp_frame, Stages.stageResamp_rs]; rfl
@[simp] theorem stageDiff_coefficients (F : RealFormat R) (s : State.Of R) :
    coefficients (stageDiff F s) = coefficients s := by
  rw [stageDiff_frame]; rfl

/-- One sample leaves the TED's design (R330). -/
theorem tedStep_design (F : RealFormat R) (g : R) (d : Ted R) (x : Cplx R) :
    ((tedStep F g d x).1.omega, (tedStep F g d x).1.twiceSps) = (d.omega, d.twiceSps) := by
  rw [Stages.tedStep_keeps]

@[simp] theorem stageTed_coefficients (F : RealFormat R) (s : State.Of R) :
    coefficients (stageTed F s) = coefficients s := by
  have hted : ((stageTed F s).ted.omega, (stageTed F s).ted.twiceSps) = (s.ted.omega, s.ted.twiceSps) := by
    unfold stageTed
    split
    · exact transduce_keeps (fun d : Ted R => (d.omega, d.twiceSps) = (s.ted.omega, s.ted.twiceSps)) _
        (fun d x h => (tedStep_design F _ d x).trans h) _ _ rfl
    · rfl
  rw [stageTed_frame]
  exact congrArg (fun e => (⟨_, e, _⟩ : Coefficients R)) hted

@[simp] theorem stageCostas_coefficients (F : RealFormat R) (s : State.Of R) :
    coefficients (stageCostas F s) = coefficients s := by
  have hted : ((stageCostas F s).ted.omega, (stageCostas F s).ted.twiceSps) = (s.ted.omega, s.ted.twiceSps) := by
    unfold stageCostas
    split
    · exact transduce_keeps
        (fun st : Costas R × Ted R => (st.2.omega, st.2.twiceSps) = (s.ted.omega, s.ted.twiceSps)) _
        (fun st x h => (tedStep_design F _ st.2 x).trans h) (s.cos, s.ted) _ rfl
    · rfl
  rw [stageCostas_frame]
  exact congrArg (fun e => (⟨_, e, _⟩ : Coefficients R)) hted

@[simp] theorem audioOutput_coefficients (p : Params R) (s : State.Of R) :
    coefficients (audioOutput p s) = coefficients s := by
  have hfold (zs : List (Cplx R)) (t : State.Of R) :
      coefficients (zs.foldl (fun t z => t.audioPush p (audioSample p.real z)) t) = coefficients t := by
    induction zs generalizing t with
    | nil => rfl
    | cons z zs ih => exact ih _
  unfold audioOutput
  split
  · exact hfold s.work.xs s
  · rfl

/-- The stages of a path change no designed coefficient. -/
theorem pathStages_coefficients (p : Params R) (s : State.Of R) :
    coefficients (Steps.pathStages p s) = coefficients s := by
  unfold Steps.pathStages
  split
  · simp
  · simp [Commands.beforeAudio, Commands.fmRealStages, Commands.fmComplexStages]

end

/-- A block that completes leaves the designed coefficients and the keys that its design step left. -/
theorem procEnd_design (s : State) :
    coefficients (Steps.procEnd s) = coefficients (prepare Params.default s) ∧
      (Steps.procEnd s).key = (prepare Params.default s).key := by
  have hblock := Steps.block_eq Params.default s s.csr.blockLength
  have hchain := Steps.block_chained Params.default s s.csr.blockLength
  have hmid : coefficients (Steps.blockMid Params.default s s.csr.blockLength) = coefficients (prepare Params.default s) :=
    pathStages_coefficients _ _
  have hkey := congrArg Steps.Control.key (Steps.blockMid_control Params.default s s.csr.blockLength)
  generalize Steps.blockMid Params.default s s.csr.blockLength = m at *
  have hend : coefficients (Steps.procEnd s) = coefficients (stageSlice Params.default m) ∧
      (Steps.procEnd s).key = (stageSlice Params.default m).key := by
    rw [Steps.procEnd, hblock]
    exact ⟨rfl, rfl⟩
  refine ⟨hend.1.trans (Eq.trans ?_ hmid), hend.2.trans (hchain.key.trans hkey)⟩
  simp only [coefficients, hchain.be, hchain.ted, hchain.de, hchain.al, hchain.ch, hchain.rs]

/-! ## The design step, set by set (R264) -/

/-- What becomes of a set or its key: the new one where the set is enabled and its key is not the present one. -/
def designed {α : Type} (active : Bool) (old key : Option (List Word)) (new kept : α) : α :=
  if active && decide (old ≠ key) then new else kept

/-- An enabled set has the present key and is new where that changed; another set is as it was. -/
theorem designed_spec {α : Type} {active : Bool} {enabled : Prop} [Decidable enabled] (h : active = true ↔ enabled)
    (old key : Option (List Word)) (new kept : α) :
    if enabled then designed active old key key old = key ∧ designed active old key new kept = if old = key then kept else new
    else designed active old key key old = old ∧ designed active old key new kept = kept := by
  by_cases he : enabled
  · rw [if_pos he, h.mpr he]
    by_cases hk : old = key
    · simp [designed, hk]
    · simp [designed, hk]
  · rw [if_neg he, Bool.eq_false_iff.mpr fun ha => he (h.mp ha)]
    exact ⟨rfl, rfl⟩

section
variable {R : Type}

/-- The key of each set: the CSR values it is designed from (R264). -/
def presentKey (c : CsrFile) : DesignKey where
  hb := some [c.get .hbStages]
  be := some [c.get .tedSps]
  ted := some [c.get .tedSps]
  eq := some [BitVec.ofNat 32 c.ffeLen, BitVec.ofNat 32 c.dfeLen]
  de := some [c.get .deemphCfg, c.get .deemphTauNfmNs, c.get .fsIn, BitVec.ofNat 32 c.halvings]
  ch := some [c.get .chlpfCfg, BitVec.ofNat 32 c.chFc, BitVec.ofNat 32 c.chTw, c.get .fsIn, BitVec.ofNat 32 c.halvings]
  al := some [c.get .alpfFc, c.get .fsIn, BitVec.ofNat 32 c.halvings]
  rs := some [c.get .rsL, c.get .rsM, c.get .rsK]

theorem designHb_eq (p : Params R) (s : State.Of R) :
    designHb p s =
      { s with
        hb := designed (s.on .hb) s.key.hb (presentKey s.cfg).hb (hbReset p) s.hb
        key := { s.key with hb := designed (s.on .hb) s.key.hb (presentKey s.cfg).hb (presentKey s.cfg).hb s.key.hb } } := by
  by_cases h : ((s.on .hb) && decide (s.key.hb ≠ (presentKey s.cfg).hb)) = true
  · rw [designed, designed, if_pos h, if_pos h]
    exact if_pos h
  · rw [designed, designed, if_neg h, if_neg h]
    exact if_neg h

theorem designBe_eq (F : RealFormat R) (s : State.Of R) :
    designBe F s =
      { s with
        be := designed (s.on .befll && s.cq) s.key.be (presentKey s.cfg).be (beDesign F s.cfg.sps s.be) s.be
        key := { s.key with
          be := designed (s.on .befll && s.cq) s.key.be (presentKey s.cfg).be (presentKey s.cfg).be s.key.be } } := by
  by_cases h : ((s.on .befll && s.cq) && decide (s.key.be ≠ (presentKey s.cfg).be)) = true
  · rw [designed, designed, if_pos h, if_pos h]
    exact if_pos h
  · rw [designed, designed, if_neg h, if_neg h]
    exact if_neg h

theorem designTed_eq (F : RealFormat R) (s : State.Of R) :
    designTed F s =
      { s with
        ted := designed s.tedActive s.key.ted (presentKey s.cfg).ted (Ted.resetFor F s.cfg.sps) s.ted
        key := { s.key with
          ted := designed s.tedActive s.key.ted (presentKey s.cfg).ted (presentKey s.cfg).ted s.key.ted } } := by
  by_cases h : ((s.tedActive) && decide (s.key.ted ≠ (presentKey s.cfg).ted)) = true
  · rw [designed, designed, if_pos h, if_pos h]
    exact if_pos h
  · rw [designed, designed, if_neg h, if_neg h]
    exact if_neg h

theorem designEq_eq (F : RealFormat R) (s : State.Of R) :
    designEq F s =
      { s with
        eq := designed (s.on .eq && s.cq) s.key.eq (presentKey s.cfg).eq (Equalizer.initFor F s.cfg.ffeLen) s.eq
        key := { s.key with
          eq := designed (s.on .eq && s.cq) s.key.eq (presentKey s.cfg).eq (presentKey s.cfg).eq s.key.eq } } := by
  by_cases h : ((s.on .eq && s.cq) && decide (s.key.eq ≠ (presentKey s.cfg).eq)) = true
  · rw [designed, designed, if_pos h, if_pos h]
    exact if_pos h
  · rw [designed, designed, if_neg h, if_neg h]
    exact if_neg h

theorem designDe_eq (F : RealFormat R) (s : State.Of R) :
    designDe F s =
      { s with
        de := designed (s.on .deemph && !s.cq) s.key.de (presentKey s.cfg).de ⟨F.zero, deCoeff F s.cfg⟩ s.de
        key := { s.key with
          de := designed (s.on .deemph && !s.cq) s.key.de (presentKey s.cfg).de (presentKey s.cfg).de s.key.de } } := by
  by_cases h : ((s.on .deemph && !s.cq) && decide (s.key.de ≠ (presentKey s.cfg).de)) = true
  · rw [designed, designed, if_pos h, if_pos h]
    exact if_pos h
  · rw [designed, designed, if_neg h, if_neg h]
    exact if_neg h

theorem designCh_eq (p : Params R) (s : State.Of R) :
    designCh p s =
      { s with
        ch := designed (s.on .chlpf) s.key.ch (presentKey s.cfg).ch
          ⟨chTaps p s.cfg, List.replicate (s.cfg.chNtaps p - 1) p.real.czero⟩ s.ch
        key := { s.key with
          ch := designed (s.on .chlpf) s.key.ch (presentKey s.cfg).ch (presentKey s.cfg).ch s.key.ch } } := by
  by_cases h : ((s.on .chlpf) && decide (s.key.ch ≠ (presentKey s.cfg).ch)) = true
  · rw [designed, designed, if_pos h, if_pos h]
    exact if_pos h
  · rw [designed, designed, if_neg h, if_neg h]
    exact if_neg h

theorem designAl_eq (F : RealFormat R) (s : State.Of R) :
    designAl F s =
      { s with
        al := designed (s.on .alpf && !s.cq) s.key.al (presentKey s.cfg).al ⟨F.zero, alCoeff F s.cfg⟩ s.al
        key := { s.key with
          al := designed (s.on .alpf && !s.cq) s.key.al (presentKey s.cfg).al (presentKey s.cfg).al s.key.al } } := by
  by_cases h : ((s.on .alpf && !s.cq) && decide (s.key.al ≠ (presentKey s.cfg).al)) = true
  · rw [designed, designed, if_pos h, if_pos h]
    exact if_pos h
  · rw [designed, designed, if_neg h, if_neg h]
    exact if_neg h

theorem designRs_eq (F : RealFormat R) (s : State.Of R) :
    designRs F s =
      { s with
        rs := designed (s.on .resamp) s.key.rs (presentKey s.cfg).rs
          ⟨rsTapsOf F s.cfg.rsTaps s.cfg.ratio.1 s.cfg.ratio.2, List.replicate s.cfg.rsTaps F.czero, 0⟩ s.rs
        key := { s.key with
          rs := designed (s.on .resamp) s.key.rs (presentKey s.cfg).rs (presentKey s.cfg).rs s.key.rs } } := by
  by_cases h : ((s.on .resamp) && decide (s.key.rs ≠ (presentKey s.cfg).rs)) = true
  · rw [designed, designed, if_pos h, if_pos h]
    exact if_pos h
  · rw [designed, designed, if_neg h, if_neg h]
    exact if_neg h

/-- The design step as one update: every set and every key by itself. -/
theorem design_eq (p : Params R) (s : State.Of R) :
    let k := presentKey s.cfg
    design p s =
      { s with
        hb := designed (s.on .hb) s.key.hb k.hb (hbReset p) s.hb
        be := designed (s.on .befll && s.cq) s.key.be k.be (beDesign p.real s.cfg.sps s.be) s.be
        ted := designed s.tedActive s.key.ted k.ted (Ted.resetFor p.real s.cfg.sps) s.ted
        eq := designed (s.on .eq && s.cq) s.key.eq k.eq (Equalizer.initFor p.real s.cfg.ffeLen) s.eq
        de := designed (s.on .deemph && !s.cq) s.key.de k.de ⟨p.real.zero, deCoeff p.real s.cfg⟩ s.de
        ch := designed (s.on .chlpf) s.key.ch k.ch
          ⟨chTaps p s.cfg, List.replicate (s.cfg.chNtaps p - 1) p.real.czero⟩ s.ch
        al := designed (s.on .alpf && !s.cq) s.key.al k.al ⟨p.real.zero, alCoeff p.real s.cfg⟩ s.al
        rs := designed (s.on .resamp) s.key.rs k.rs
          ⟨rsTapsOf p.real s.cfg.rsTaps s.cfg.ratio.1 s.cfg.ratio.2, List.replicate s.cfg.rsTaps p.real.czero, 0⟩ s.rs
        key :=
          { hb := designed (s.on .hb) s.key.hb k.hb k.hb s.key.hb
            be := designed (s.on .befll && s.cq) s.key.be k.be k.be s.key.be
            ted := designed s.tedActive s.key.ted k.ted k.ted s.key.ted
            eq := designed (s.on .eq && s.cq) s.key.eq k.eq k.eq s.key.eq
            de := designed (s.on .deemph && !s.cq) s.key.de k.de k.de s.key.de
            ch := designed (s.on .chlpf) s.key.ch k.ch k.ch s.key.ch
            al := designed (s.on .alpf && !s.cq) s.key.al k.al k.al s.key.al
            rs := designed (s.on .resamp) s.key.rs k.rs k.rs s.key.rs } } := by
  simp only [design, designHb_eq, designBe_eq, designTed_eq, designEq_eq, designDe_eq, designCh_eq, designAl_eq,
    designRs_eq]
  rfl

end

end Sys2Proof.Proofs.Design
end

section
/-! PROOF. The taps and coefficients of the designed sets (R310, R311, R400, R404, R405, R420, R430), entry by entry; O24. -/

namespace Sys2Proof.Proofs.Design
open Sys2Proof Sys2Proof.Machine

/-- The entries of a list given by place, each with its place. -/
theorem zipIdx_map_range {α : Type} (f : Nat → α) (n : Nat) :
    ((List.range n).map f).zipIdx = (List.range n).map (fun i => (f i, i)) := by
  refine List.ext_getElem (by simp) fun i h1 h2 => ?_
  simp

section
variable {R : Type} (F : RealFormat R)

/-! ## Band-edge FLL (R310, R311) -/

theorem beTaps_eq (sps : Nat) (lower : Bool) :
    beTaps F sps lower =
      (List.range (2 * sps + 1)).map (fun n =>
        F.scale (F.div (bePrototype F sps n) (F.sum ((List.range (2 * sps + 1)).map (bePrototype F sps))))
          (F.expj (if lower then F.neg (beAngle F sps n) else beAngle F sps n))) := by
  rw [beTaps, bePrototypes, zipIdx_map_range, List.map_map]
  rfl

/-! ## Windows (R405) -/

/-- The windows, each cosine sum written out. -/
theorem windowValue_eq (wnd n mw : Nat) :
    let x := F.div (F.mul F.twoPi (F.ofNat n)) (F.ofNat mw)
    let term := fun num k : Nat => F.mul (F.ofRat num 100000) (F.cos (F.mul (F.ofNat k) x))
    let first := fun num : Nat => F.mul (F.ofRat num 100000) (F.cos x)
    windowValue F wnd n mw =
      if mw = 0 then F.one
      else if wnd = 0 then F.sub (F.ofRat 54000 100000) (first 46000)
      else if wnd = 1 then F.sub (F.ofRat 50000 100000) (first 50000)
      else if wnd = 2 then F.add (F.sub (F.ofRat 42000 100000) (first 50000)) (term 8000 2)
      else if wnd = 3 then
        F.sub (F.add (F.sub (F.ofRat 35875 100000) (first 48829)) (term 14128 2)) (term 1168 3)
      else if wnd = 4 then
        F.sub F.one (F.abs (F.sub (F.div (F.ofNat (2 * n)) (F.ofNat mw)) F.one))
      else if wnd = 5 then
        F.add
          (F.sub (F.add (F.sub (F.ofRat 100000 100000) (first 193000)) (term 129000 2)) (term 38800 3))
          (term 2800 4)
      else F.one := by
  intro x term first
  by_cases hm : mw = 0
  · rw [windowValue, if_pos hm, if_pos hm]
  · rw [windowValue, if_neg hm, if_neg hm]
    match wnd with
    | 0 => rfl
    | 1 => rfl
    | 2 => rfl
    | 3 => rfl
    | 4 => rfl
    | 5 => rfl
    | k + 6 => simp

/-! ## Channel LPF (R404) -/

theorem chTaps_eq (p : Params R) (c : CsrFile) :
    let n := c.chNtaps p
    let w0 := p.real.div (p.real.mul p.real.twoPi (p.real.ofNat c.chFc)) (c.fsMid p.real)
    chTaps p c =
      (List.range n).map (fun i => p.real.div (chPrototype p.real c.chWindow (n - 1) w0 i)
        (p.real.sum ((List.range n).map (chPrototype p.real c.chWindow (n - 1) w0)))) := by
  intro n w0
  rw [chTaps, List.map_map]
  rfl

/-! ## Deemphasis (R400) -/

theorem deTau_eq (c : CsrFile) :
    deTau F c =
      if (c.get .deemphCfg).toNat % 4 = 1 then F.ofRat 50 1000000
      else if (c.get .deemphCfg).toNat % 4 = 2 then F.ofRat 75 1000000
      else F.mul (F.ofNat (c.get .deemphTauNfmNs).toNat) (F.ofRat 1 1000000000) := by
  have hfield : c.field .deemphCfg 0 2 = (c.get .deemphCfg).toNat % 4 := Commands.field_zero ..
  unfold deTau
  rw [hfield]
  generalize (c.get .deemphCfg).toNat % 4 = m
  match m with
  | 0 => rfl
  | 1 => rfl
  | 2 => rfl
  | k + 3 => simp

/-! ## Resampler (R430) -/

/-- The taps of the resampler, each from the prototype at its place. -/
theorem rsTapsOf_eq (k l m : Nat) :
    let fc2 := F.mul (F.ofNat 2) (F.div F.one (F.ofNat (2 * max l m)))
    rsTapsOf F k l m =
      if l = m then []
      else
        (List.range l).flatMap (fun p =>
          (List.range k).map (fun j =>
            F.div (F.mul (rsPrototype F (j * l + p) (k * l) fc2) (F.ofNat l))
              (F.sum ((List.range (k * l)).map (fun n => rsPrototype F n (k * l) fc2))))) := by
  intro fc2
  unfold rsTapsOf
  refine if_congr Iff.rfl rfl ?_
  dsimp only
  refine List.flatMap_congr fun p hp => List.map_congr_left fun j hj => ?_
  have hp : p < l := List.mem_range.mp hp
  have hj : j < k := List.mem_range.mp hj
  have hlt : j * l + p < k * l := by
    calc j * l + p < j * l + l := by omega
      _ = (j + 1) * l := (Nat.succ_mul j l).symm
      _ ≤ k * l := Nat.mul_le_mul_right l hj
  rw [List.map_map, List.getD_eq_getElem _ _ (by simpa using hlt), List.getElem_map, List.getElem_range]
  rfl

end

/-! ## The sets of a block -/

theorem sinc_eq (x : F32) :
    Machine.sinc .binary32 x =
      if x.isZero = true then F32.one else F32.div (F32.sin (F32.mul F32.pi x)) (F32.mul F32.pi x) := by
  by_cases h : x.isZero = true
  · rw [if_pos h]
    exact if_pos h
  · rw [if_neg h]
    exact if_neg h

/-- The keys and sets after the design step of a block, from those a pending retune reset leaves (R261, R264). -/
theorem prepare_eq (s : State) :
    let k := presentKey s.csr
    let r := applyRetune Params.default s
    let p := prepare Params.default s
    let c := s.csr
    p.key =
        { hb := designed (c.stageOn .hb) s.key.hb k.hb k.hb s.key.hb
          be := designed (c.stageOn .befll && c.cqpsk) s.key.be k.be k.be s.key.be
          ted := designed (c.stageOn .ted || (c.cqpsk && c.stageOn .costas)) s.key.ted k.ted k.ted s.key.ted
          eq := designed (c.stageOn .eq && c.cqpsk) s.key.eq k.eq k.eq s.key.eq
          de := designed (c.stageOn .deemph && !c.cqpsk) s.key.de k.de k.de s.key.de
          ch := designed (c.stageOn .chlpf) s.key.ch k.ch k.ch s.key.ch
          al := designed (c.stageOn .alpf && !c.cqpsk) s.key.al k.al k.al s.key.al
          rs := designed (c.stageOn .resamp) s.key.rs k.rs k.rs s.key.rs } ∧
      p.hb = designed (c.stageOn .hb) s.key.hb k.hb (hbReset Params.default) r.hb ∧
      p.be = designed (c.stageOn .befll && c.cqpsk) s.key.be k.be (beDesign .binary32 c.sps r.be) r.be ∧
      p.ted = designed (c.stageOn .ted || (c.cqpsk && c.stageOn .costas)) s.key.ted k.ted (Ted.resetFor .binary32 c.sps) r.ted ∧
      p.eq = designed (c.stageOn .eq && c.cqpsk) s.key.eq k.eq (Equalizer.initFor .binary32 c.ffeLen) r.eq ∧
      p.de = designed (c.stageOn .deemph && !c.cqpsk) s.key.de k.de ⟨F32.zero, deCoeff .binary32 c⟩ r.de ∧
      p.ch = designed (c.stageOn .chlpf) s.key.ch k.ch
        ⟨chTaps Params.default c, List.replicate (c.chNtaps Params.default - 1) C32.zero⟩ r.ch ∧
      p.al = designed (c.stageOn .alpf && !c.cqpsk) s.key.al k.al ⟨F32.zero, alCoeff .binary32 c⟩ r.al ∧
      p.rs = designed (c.stageOn .resamp) s.key.rs k.rs
        ⟨rsTapsOf .binary32 c.rsTaps c.ratio.1 c.ratio.2, List.replicate c.rsTaps C32.zero, 0⟩ r.rs := by
  intro k r p c
  have hcontrol := Steps.applyRetune_control Params.default s
  have hkey : r.latch.key = s.key := congrArg Steps.Control.key hcontrol
  have hcfg : r.latch.cfg = s.csr := congrArg Steps.Control.csr hcontrol
  have hdesign := design_eq Params.default r.latch
  have hon : ∀ j, r.latch.on j = c.stageOn j := fun j => by rw [State.Of.on, hcfg]
  have hcq : r.latch.cq = c.cqpsk := by rw [State.Of.cq, hcfg]
  have hted : r.latch.tedActive = (c.stageOn .ted || (c.cqpsk && c.stageOn .costas)) := by
    rw [State.Of.tedActive, hon, hon, hcq]
  rw [hkey, hcfg, hted, hcq] at hdesign
  simp only [hon] at hdesign
  have hp : p = design Params.default r.latch := rfl
  rw [hp, hdesign]
  exact ⟨rfl, rfl, rfl, rfl, rfl, rfl, rfl, rfl, rfl⟩

/-! ## The coefficients in binary32 -/

theorem beDesign_eq (sps : Nat) (b : BeFll F32) :
    let sinc := fun x : F32 =>
      if x.isZero = true then F32.one else F32.div (F32.sin (F32.mul F32.pi x)) (F32.mul F32.pi x)
    let rho := F32.ofRat 2 10
    let half := F32.ofRat 1 2
    let bb := fun n : Nat =>
      let kb := F32.add (F32.ofInt (-2)) (F32.div (F32.ofNat (2 * n)) (F32.ofNat sps))
      F32.add (sinc (F32.sub (F32.mul rho kb) half)) (sinc (F32.add (F32.mul rho kb) half))
    let bbSum := F32.sum ((List.range (2 * sps + 1)).map bb)
    let edge := fun n : Nat =>
      F32.mul (F32.mul F32.twoPi (F32.add F32.one rho))
        (F32.div (F32.ofInt ((n : Int) - sps)) (F32.ofNat (2 * sps)))
    let bandEdge := fun lower : Bool =>
      (List.range (2 * sps + 1)).map (fun n =>
        let a := if lower = true then F32.neg (edge n) else edge n
        (⟨F32.mul (F32.div (bb n) bbSum) (F32.cos a), F32.mul (F32.div (bb n) bbSum) (F32.sin a)⟩ : C32))
    let w := F32.div F32.twoPi (F32.ofNat (sps * 250))
    let z := F32.div (F32.sqrt (F32.ofNat 2)) (F32.ofNat 2)
    let den := F32.add (F32.add F32.one (F32.mul (F32.mul (F32.ofNat 2) z) w)) (F32.mul w w)
    beDesign .binary32 sps b =
      { b with
        h := List.replicate (2 * sps) C32.zero
        up := bandEdge false
        lo := bandEdge true
        alpha := F32.div (F32.mul (F32.mul (F32.ofNat 4) z) w) den
        beta := F32.div (F32.mul (F32.ofNat 4) (F32.mul w w)) den
        fmax := F32.div (F32.mul F32.twoPi (F32.ofNat 2)) (F32.ofNat sps) } := by
  intro sinc rho half bb bbSum edge bandEdge w z den
  have hbb : bePrototype .binary32 sps = bb := funext fun n => by
    simp only [bePrototype, sinc_eq, rolloff, Machine.half]
    rfl
  have hedge : ∀ n, beAngle .binary32 sps n = edge n := fun n => by
    simp only [beAngle, rolloff]
    rfl
  have htaps : ∀ lower, beTaps .binary32 sps lower = bandEdge lower := fun lower => by
    rw [beTaps_eq, hbb]
    simp only [hedge, RealFormat.scale, RealFormat.expj]
    rfl
  simp only [beDesign, htaps, beOmega, beZeta, beDenom, RealFormat.binary32_czero]
  rfl

theorem deCoeff_eq (c : CsrFile) :
    let tau :=
      if (c.get .deemphCfg).toNat % 4 = 1 then F32.ofRat 50 1000000
      else if (c.get .deemphCfg).toNat % 4 = 2 then F32.ofRat 75 1000000
      else F32.mul (F32.ofNat (c.get .deemphTauNfmNs).toNat) (F32.ofRat 1 1000000000)
    deCoeff .binary32 c =
      if tau.isZero = true then F32.one
      else F32.sub F32.one (F32.exp (F32.div (F32.neg F32.one) (F32.mul tau (c.fsMid .binary32)))) := by
  intro tau
  have htau : deTau .binary32 c = tau := by
    unfold tau
    simp only [deTau_eq]
  rw [deCoeff, htau]
  by_cases h : tau.isZero = true
  · rw [if_pos h]
    exact if_pos h
  · rw [if_neg h]
    exact if_neg h

theorem chPrototype_eq (window ntaps : Nat) (w0 : F32) (n : Nat) :
    let k : Int := (n : Int) - ((ntaps - 1) / 2 : Nat)
    chPrototype .binary32 window (ntaps - 1) w0 n =
      F32.mul
        (if k = 0 then F32.div w0 F32.pi
        else F32.div (F32.sin (F32.mul (F32.ofInt k) w0)) (F32.mul (F32.ofInt k) F32.pi))
        (windowValue .binary32 window n (ntaps - 1)) := by
  intro k
  simp only [chPrototype]
  rfl

theorem rsPrototype_eq (n len : Nat) (fc2 : F32) :
    rsPrototype .binary32 n len fc2 =
      F32.mul
        (F32.mul fc2 (Machine.sinc .binary32 (F32.mul fc2 (F32.ofRat (2 * (n : Int) - ((len : Nat) - 1 : Int)) 2))))
        (if len = 1 then F32.one else windowValue .binary32 0 n (len - 1)) := by
  simp only [rsPrototype]

/-- A set and its key from the design step, its key and its coefficients written out. -/
theorem set_of_designed {α : Type} {active : Bool} {enabled : Prop} [Decidable enabled] (h : active = true ↔ enabled)
    {pk old key key' : Option (List Word)} {px new new' kept : α} (hpk : pk = designed active old key key old)
    (hpx : px = designed active old key new kept) (hkey : key = key') (hnew : new = new') :
    if enabled then pk = key' ∧ px = if old = key' then kept else new' else pk = old ∧ px = kept := by
  subst hpk hpx hkey hnew
  exact designed_spec h ..

/-- Settles O24: the block leaves what its design step left, and the step designs each enabled set whose key changed. -/
theorem procDesignsEnabledSets : Obligations.ProcDesignsEnabledSets := by
  unfold Obligations.ProcDesignsEnabledSets
  intro s hok hlen c r p sps h fs sinc rho half bb bbSum edge bandEdge window profile fc tw tapsDen tapsUp ntaps win w0
    chProto chSum rsG rsL rsM rsK fc2 rsProto rsSum keyHb keySps keyEq keyDe keyCh keyAl keyRs
  obtain ⟨hcoefficients, hendkey⟩ := procEnd_design s
  obtain ⟨hkey, hhb, hbe, hted, heq, hde, hch, hal, hrs⟩ := prepare_eq s
  have hsps : s.csr.sps = sps := Invariant.sps_eq _
  have hh : s.csr.halvings = h := Steps.halvings_eq _
  have hfs : s.csr.fsMid .binary32 = fs := by
    rw [CsrFile.fsMid, hh]
  have hfc : s.csr.chFc = fc := Steps.chFc_eq _
  have htw : s.csr.chTw = tw := Steps.chTw_eq _
  have hntaps : s.csr.chNtaps Params.default = ntaps := Steps.chNtaps_eq _
  have hwindow : s.csr.chWindow = window := rfl
  have hwin : ∀ wnd n mw, windowValue .binary32 wnd n mw = win wnd n mw := fun wnd n mw => by
    simp only [windowValue_eq]
    rfl
  refine ⟨_, Steps.exec_proc hok hlen, hendkey, congrArg Coefficients.be hcoefficients,
    congrArg Coefficients.ted hcoefficients, congrArg Coefficients.filters hcoefficients, ?_, ?_, ?_, ?_, ?_, ?_, ?_, ?_⟩
  · exact set_of_designed Iff.rfl (congrArg DesignKey.hb hkey) hhb rfl rfl
  · refine set_of_designed (by rw [Bool.and_eq_true]) (congrArg DesignKey.be hkey) hbe rfl ?_
    rw [hsps]
    exact beDesign_eq sps r.be
  · refine set_of_designed (by rw [Bool.or_eq_true, Bool.and_eq_true]) (congrArg DesignKey.ted hkey) hted rfl ?_
    simp only [hsps, Ted.resetFor, RealFormat.binary32_czero]
  · refine set_of_designed (by rw [Bool.and_eq_true]) (congrArg DesignKey.eq hkey) heq ?_ ?_
    · simp only [presentKey, CsrFile.ffeLen, CsrFile.dfeLen, Commands.field_zero]
      rfl
    · simp only [Equalizer.initFor, CsrFile.ffeLen, Commands.field_zero, RealFormat.binary32_czero]
      rfl
  · refine set_of_designed (by rw [Bool.and_eq_true, Bool.not_eq_true']) (congrArg DesignKey.de hkey) hde ?_ ?_
    · simp only [presentKey, hh]
      rfl
    · simp only [deCoeff_eq, hfs]
      rfl
  · refine set_of_designed Iff.rfl (congrArg DesignKey.ch hkey) hch ?_ ?_
    · simp only [presentKey, hh, hfc, htw]
      rfl
    · have hproto : chPrototype .binary32 s.csr.chWindow (ntaps - 1) w0 = chProto := funext fun n => by
        rw [chPrototype_eq, hwin, hwindow]
      have htaps : chTaps Params.default s.csr = (List.range ntaps).map (fun n => F32.div (chProto n) chSum) := by
        rw [chTaps_eq, hntaps]
        simp only [hfc, hfs]
        rw [hproto]
      rw [htaps, hntaps]
  · refine set_of_designed (by rw [Bool.and_eq_true, Bool.not_eq_true']) (congrArg DesignKey.al hkey) hal ?_ ?_
    · simp only [presentKey, hh]
      rfl
    · simp only [alCoeff, hfs]
      rfl
  · refine set_of_designed Iff.rfl (congrArg DesignKey.rs hkey) hrs rfl ?_
    have hk : s.csr.rsTaps = rsK := Commands.field_zero ..
    have hl : s.csr.ratio.1 = rsL := by
      simp only [CsrFile.ratio, Commands.field_zero]
      rfl
    have hm : s.csr.ratio.2 = rsM := by
      simp only [CsrFile.ratio, Commands.field_zero]
      rfl
    have hproto : ∀ n, rsPrototype .binary32 n (rsK * rsL)
        (RealFormat.binary32.mul (RealFormat.binary32.ofNat 2)
          (RealFormat.binary32.div RealFormat.binary32.one (RealFormat.binary32.ofNat (2 * max rsL rsM)))) =
          rsProto n := fun n => by
      rw [rsPrototype_eq, sinc_eq, hwin]
    rw [hk, hl, hm, rsTapsOf_eq]
    simp only [hproto]
    rfl

end Sys2Proof.Proofs.Design
end

section
/-! PROOF. The range of `ATAN2_Q14`, its oddness in y, and its values on the axes, the diagonals and at six further points
(R396); O46. -/

namespace Sys2Proof.Proofs.Angle
open Sys2Proof Sys2Proof.Machine

/-! ## The order and the sign by the parts of a datum -/

/-- The bits below the sign. -/
def lowBits (x : F32) : Nat := x.expo * 2 ^ 23 + x.frac

theorem key_eq (x : F32) : x.key = if x.isNeg then -(lowBits x : Int) else lowBits x := by
  have hlow : (x.bits.extractLsb' 0 31).toNat = lowBits x := by
    simp only [lowBits, F32.expo, F32.frac, BitVec.extractLsb'_toNat, Nat.shiftRight_eq_div_pow]
    omega
  simp only [F32.key, hlow]

theorem lowBits_inj {x y : F32} (h : lowBits x = lowBits y) : x.expo = y.expo ∧ x.frac = y.frac := by
  have hx := Rounding.frac_lt x
  have hy := Rounding.frac_lt y
  simp only [lowBits] at h
  omega

theorem lowBits_eq_zero_iff (x : F32) : lowBits x = 0 ↔ x.expo = 0 ∧ x.frac = 0 := by
  simp only [lowBits]
  omega

theorem isZero_iff {x : F32} (h : x.isNan = false) : x.isZero = true ↔ lowBits x = 0 := by
  simp only [F32.isZero, F32.eqv, h, show F32.zero.isNan = false by decide, show F32.zero.key = 0 by decide, key_eq,
    Bool.not_false, Bool.true_and, decide_eq_true_eq]
  split <;> omega

theorem lt_zero_iff {x : F32} (h : x.isNan = false) : F32.lt x F32.zero = true ↔ x.isNeg = true ∧ lowBits x ≠ 0 := by
  simp only [F32.lt, h, show F32.zero.isNan = false by decide, show F32.zero.key = 0 by decide, key_eq,
    Bool.not_false, Bool.true_and, decide_eq_true_eq]
  cases x.isNeg
  · simp
  · rw [if_pos rfl]
    exact ⟨fun h => ⟨rfl, by omega⟩, fun h => by omega⟩

theorem of_zero_lt {x : F32} (h : F32.lt F32.zero x = true) : x.isNan = false ∧ x.isNeg = false ∧ lowBits x ≠ 0 := by
  have hnan : x.isNan = false := by
    cases hx : x.isNan
    · rfl
    · simp [F32.lt, hx] at h
  simp only [F32.lt, hnan, show F32.zero.isNan = false by decide, show F32.zero.key = 0 by decide, key_eq,
    Bool.not_false, Bool.true_and, decide_eq_true_eq] at h
  refine ⟨hnan, ?_⟩
  cases hneg : x.isNeg
  · rw [hneg, if_neg Bool.false_ne_true] at h
    exact ⟨rfl, by omega⟩
  · rw [hneg, if_pos rfl] at h
    omega

/-- A datum equal to a positive one has its parts. -/
theorem parts_of_eqv {y z : F32} (hy : F32.lt F32.zero y = true) (h : F32.eqv y z = true) :
    z.isNan = false ∧ z.isNeg = false ∧ z.expo = y.expo ∧ z.frac = y.frac := by
  obtain ⟨hnan, hneg, hlow⟩ := of_zero_lt hy
  simp only [F32.eqv, hnan, key_eq, hneg, Bool.not_false, Bool.true_and, Bool.and_eq_true, Bool.not_eq_true',
    decide_eq_true_eq, Bool.false_eq_true, if_false] at h
  obtain ⟨hz, hkey⟩ := h
  cases hzneg : z.isNeg
  · rw [hzneg, if_neg (by decide)] at hkey
    exact ⟨hz, rfl, lowBits_inj (by omega)⟩
  · rw [hzneg, if_pos rfl] at hkey
    omega

/-- Negation changes the sign and nothing else. -/
theorem parts_neg {y : F32} (h : y.isNan = false) :
    (F32.neg y).isNeg = !y.isNeg ∧ (F32.neg y).expo = y.expo ∧ (F32.neg y).frac = y.frac := by
  have hneg : F32.neg y = ⟨y.bits ^^^ 0x80000000#32⟩ := by simp [F32.neg, h]
  rw [hneg]
  refine ⟨by simp [F32.isNeg], congrArg BitVec.toNat ?_, congrArg BitVec.toNat ?_⟩
  · rw [BitVec.extractLsb'_xor]
    simp
  · rw [BitVec.extractLsb'_xor]
    simp

theorem isNan_congr {y z : F32} (he : z.expo = y.expo) (hf : z.frac = y.frac) : z.isNan = y.isNan := by
  simp only [F32.isNan, he, hf]

/-! ## The magnitudes that span the angle -/

theorem isInf_congr {y z : F32} (he : z.expo = y.expo) (hf : z.frac = y.frac) : z.isInf = y.isInf := by
  simp only [F32.isInf, he, hf]

theorem mag_congr {y z : F32} (he : z.expo = y.expo) (hf : z.frac = y.frac) : z.mag = y.mag := by
  simp only [F32.mag, he, hf]

theorem anglePair_congr {y z : F32} (he : z.expo = y.expo) (hf : z.frac = y.frac) (x : F32) :
    F32.anglePair z x = F32.anglePair y x := by
  simp only [F32.anglePair, isInf_congr he hf, mag_congr he hf]

theorem mag_eq_zero_iff (x : F32) : x.mag = 0 ↔ lowBits x = 0 := by
  rw [lowBits_eq_zero_iff, F32.mag, Nat.shiftLeft_eq]
  split
  · next h => exact ⟨fun hf => ⟨h, hf⟩, And.right⟩
  · next h =>
    refine ⟨fun hm => ?_, fun h0 => absurd h0.1 h⟩
    have := Nat.mul_pos (show 0 < x.frac + 8388608 by omega) (Nat.two_pow_pos (x.expo - 1))
    omega

theorem isInf_of_lowBits {x : F32} (h : lowBits x = 0) : x.isInf = false := by
  simp [F32.isInf, (lowBits_eq_zero_iff x).mp h]

/-- A zero spans no height. -/
theorem anglePair_snd_of_zero {y : F32} (x : F32) (h : lowBits y = 0) : (F32.anglePair y x).2 = 0 := by
  simp only [F32.anglePair, isInf_of_lowBits h, (mag_eq_zero_iff y).mpr h]
  split <;> rfl

theorem anglePair_fst_eq_zero_iff (x : F32) {y : F32} (hy : lowBits y = 0) :
    (F32.anglePair y x).1 = 0 ↔ lowBits x = 0 := by
  cases hx : x.isInf
  · simp [F32.anglePair, hx, isInf_of_lowBits hy, mag_eq_zero_iff]
  · have : lowBits x ≠ 0 := fun h => by simp [isInf_of_lowBits h] at hx
    simp [F32.anglePair, hx, this]

/-- A point on the y axis has no width. -/
theorem anglePair_of_x_zero {y x : F32} (hx : lowBits x = 0) (hy : lowBits y ≠ 0) :
    (F32.anglePair y x).1 = 0 ∧ 0 < (F32.anglePair y x).2 := by
  have hm : y.mag ≠ 0 := mt (mag_eq_zero_iff y).mp hy
  cases hinf : y.isInf <;>
    simp [F32.anglePair, isInf_of_lowBits hx, hinf, (mag_eq_zero_iff x).mpr hx, Nat.pos_iff_ne_zero, hm]

/-- A point on a diagonal has width and height alike. -/
theorem anglePair_of_parts_eq {y x : F32} (he : x.expo = y.expo) (hf : x.frac = y.frac) (hy : lowBits y ≠ 0) :
    (F32.anglePair y x).1 = (F32.anglePair y x).2 ∧ 0 < (F32.anglePair y x).2 := by
  have hm : y.mag ≠ 0 := mt (mag_eq_zero_iff y).mp hy
  cases hinf : y.isInf <;>
    simp [F32.anglePair, isInf_congr he hf, mag_congr he hf, hinf, Nat.pos_iff_ne_zero, hm]

/-! ## The angle in fixed point -/

theorem tanHalf_le (t : Nat) : F32.tanHalf t ≤ t / 2 := by
  have hone : 0 < F32.fixOne := Nat.two_pow_pos _
  have hroot : F32.fixOne ≤ F32.isqrt (F32.fixOne * F32.fixOne + t * t) := by
    rw [Rounding.isqrt_eq, Nat.le_sqrt]
    exact Nat.le_add_right _ _
  have hshift : t <<< F32.fixBits = t * F32.fixOne := Nat.shiftLeft_eq ..
  calc F32.tanHalf t ≤ t * F32.fixOne / (2 * F32.fixOne) := by
        rw [F32.tanHalf, hshift]
        exact Nat.div_le_div_left (by omega) (by omega)
    _ = t / 2 := Nat.mul_div_mul_right _ _ hone

theorem atanSeries_le (fuel t2 p : Nat) : F32.atanSeries fuel t2 1 p ≤ p := by
  cases fuel with
  | zero => exact Nat.zero_le _
  | succ fuel =>
    rw [F32.atanSeries, Nat.div_one]
    split
    · exact Nat.zero_le _
    · exact Nat.sub_le ..

/-- The angle is at most its tangent. -/
theorem fixAtan_le (t : Nat) : F32.fixAtan t ≤ t := by
  have h1 := tanHalf_le t
  have h2 := tanHalf_le (F32.tanHalf t)
  have h3 := tanHalf_le (F32.tanHalf (F32.tanHalf t))
  have hseries := atanSeries_le 200 (F32.fixMul (F32.tanHalf (F32.tanHalf (F32.tanHalf t)))
    (F32.tanHalf (F32.tanHalf (F32.tanHalf t)))) (F32.tanHalf (F32.tanHalf (F32.tanHalf t)))
  simp only [F32.fixAtan]
  omega

theorem fixOne_le_fixPi : F32.fixOne ≤ F32.fixPi := by decide +kernel

theorem fixAngle_le (xNeg : Bool) {a b : Nat} (hb : b ≠ 0) : F32.fixAngle xNeg a b ≤ F32.fixPi := by
  have hfirst : (if b ≤ a then F32.fixAtan ((b <<< F32.fixBits) / a)
      else F32.fixPi / 2 - F32.fixAtan ((a <<< F32.fixBits) / b)) ≤ F32.fixPi := by
    split
    · next h =>
      have ha : 0 < a := by omega
      calc F32.fixAtan ((b <<< F32.fixBits) / a) ≤ (b <<< F32.fixBits) / a := fixAtan_le _
        _ ≤ (a * F32.fixOne) / a := by
          rw [Nat.shiftLeft_eq]
          exact Nat.div_le_div_right (Nat.mul_le_mul_right _ h)
        _ = F32.fixOne := Nat.mul_div_cancel_left _ ha
        _ ≤ F32.fixPi := fixOne_le_fixPi
    · exact (Nat.sub_le ..).trans (Nat.div_le_self ..)
  cases xNeg
  · exact hfirst
  · exact Nat.sub_le ..

/-- On the y axis the angle is the quarter turn. -/
theorem fixAngle_zero_left (xNeg : Bool) {b : Nat} (hb : 0 < b) : F32.fixAngle xNeg 0 b = F32.fixAngle xNeg 0 1 := by
  have hle : ¬ b ≤ 0 := by omega
  simp only [F32.fixAngle, if_neg hle, Nat.zero_shiftLeft, Nat.zero_div, if_neg Nat.one_pos.not_ge]

/-- On a diagonal the angle does not depend on the distance. -/
theorem fixAngle_self (xNeg : Bool) {b : Nat} (hb : 0 < b) : F32.fixAngle xNeg b b = F32.fixAngle xNeg 1 1 := by
  have hdiv : ∀ c : Nat, 0 < c → (c <<< F32.fixBits) / c = F32.fixOne := fun c hc => by
    rw [Nat.shiftLeft_eq]
    exact Nat.mul_div_cancel_left _ hc
  simp only [F32.fixAngle, le_refl, if_true, hdiv b hb, hdiv 1 Nat.one_pos]

/-! ## From the angle to units of π/16384 -/

/-- An angle in fixed point, rounded to units of π/16384. -/
def q14 (angle : Nat) : Nat := (32768 * angle + F32.fixPi) / (2 * F32.fixPi)

theorem q14_le {angle : Nat} (h : angle ≤ F32.fixPi) : q14 angle ≤ 16384 := by
  have hpi : 0 < F32.fixPi := by decide +kernel
  calc q14 angle ≤ (2 * F32.fixPi * 16384 + F32.fixPi) / (2 * F32.fixPi) := Nat.div_le_div_right (by omega)
    _ = 16384 := by
      rw [Nat.mul_add_div (by omega), Nat.div_eq_of_lt (by omega)]

theorem q14_quarter (xNeg : Bool) : q14 (F32.fixAngle xNeg 0 1) = 8192 := by
  cases xNeg <;> decide +kernel

theorem q14_diagonal (xNeg : Bool) : q14 (F32.fixAngle xNeg 1 1) = if xNeg then 12288 else 4096 := by
  cases xNeg <;> decide +kernel

theorem atan2Q14_of_height {y x : F32} (hy : y.isNan = false) (hx : x.isNan = false) (h : (F32.anglePair y x).2 ≠ 0) :
    F32.atan2Q14 y x =
      if y.isNeg then -(q14 (F32.fixAngle x.isNeg (F32.anglePair y x).1 (F32.anglePair y x).2) : Int)
      else q14 (F32.fixAngle x.isNeg (F32.anglePair y x).1 (F32.anglePair y x).2) := by
  simp only [F32.atan2Q14, hy, hx, Bool.or_self, Bool.false_eq_true, if_false, if_neg h]
  rfl

theorem atan2Q14_of_flat {y x : F32} (hy : y.isNan = false) (hx : x.isNan = false) (h : (F32.anglePair y x).2 = 0) :
    F32.atan2Q14 y x =
      if x.isNeg = true ∧ (F32.anglePair y x).1 ≠ 0 then (if F32.lt y F32.zero then -16384 else 16384) else 0 := by
  simp only [F32.atan2Q14, hy, hx, Bool.or_self, Bool.false_eq_true, if_false, if_pos h, Bool.and_eq_true, bne_iff_ne]

/-! ## The obligation -/

theorem atan2Q14_range (y x : F32) : -16384 ≤ F32.atan2Q14 y x ∧ F32.atan2Q14 y x ≤ 16384 := by
  cases hnan : y.isNan || x.isNan
  · obtain ⟨hy, hx⟩ := Bool.or_eq_false_iff.mp hnan
    by_cases h : (F32.anglePair y x).2 = 0
    · rw [atan2Q14_of_flat hy hx h]
      split
      · split <;> omega
      · omega
    · rw [atan2Q14_of_height hy hx h]
      have := q14_le (fixAngle_le x.isNeg (a := (F32.anglePair y x).1) h)
      split <;> omega
  · have := Nat.mod_lt (Config.atan2Q14OfNan y x) (show 0 < 32769 by omega)
    rw [F32.atan2Q14, if_pos hnan]
    omega

theorem atan2Q14_neg {y x : F32} (hy : y.isNan = false) (hx : x.isNan = false) (h0 : lowBits y ≠ 0) :
    F32.atan2Q14 (F32.neg y) x = -F32.atan2Q14 y x := by
  obtain ⟨hneg, he, hf⟩ := parts_neg hy
  have hnan : (F32.neg y).isNan = false := (isNan_congr he hf).trans hy
  have hpair := anglePair_congr he hf x
  have hlow : lowBits (F32.neg y) = lowBits y := by simp only [lowBits, he, hf]
  by_cases h : (F32.anglePair y x).2 = 0
  · have hlt : F32.lt (F32.neg y) F32.zero = !F32.lt y F32.zero := by
      rw [Bool.eq_iff_iff, lt_zero_iff hnan, Bool.not_eq_true', ← Bool.not_eq_true, lt_zero_iff hy, hlow, hneg]
      simp [h0]
    rw [atan2Q14_of_flat hnan hx (by rw [hpair]; exact h), atan2Q14_of_flat hy hx h, hpair, hlt]
    split
    · cases F32.lt y F32.zero <;> rfl
    · rfl
  · rw [atan2Q14_of_height hnan hx (by rw [hpair]; exact h), atan2Q14_of_height hy hx h, hpair, hneg]
    cases y.isNeg <;> simp

theorem atan2Q14_of_y_zero {y x : F32} (hx : x.isNan = false) (hy : y.isZero = true) :
    F32.atan2Q14 y x = if F32.lt x F32.zero = true then 16384 else 0 := by
  have hnan : y.isNan = false := by
    cases h : y.isNan
    · rfl
    · simp [F32.isZero, F32.eqv, h] at hy
  have hlow : lowBits y = 0 := (isZero_iff hnan).mp hy
  have hlt : F32.lt y F32.zero = false := by
    rw [← Bool.not_eq_true, lt_zero_iff hnan]
    exact fun h => h.2 hlow
  rw [atan2Q14_of_flat hnan hx (anglePair_snd_of_zero x hlow), hlt]
  refine if_congr ?_ rfl rfl
  rw [lt_zero_iff hx, Ne, anglePair_fst_eq_zero_iff x hlow]

theorem atan2Q14_of_x_zero {y x : F32} (hx : x.isZero = true) (hy : F32.lt F32.zero y = true) :
    F32.atan2Q14 y x = 8192 := by
  have hnan : x.isNan = false := by
    cases h : x.isNan
    · rfl
    · simp [F32.isZero, F32.eqv, h] at hx
  obtain ⟨hynan, hyneg, hylow⟩ := of_zero_lt hy
  obtain ⟨hfst, hsnd⟩ := anglePair_of_x_zero ((isZero_iff hnan).mp hx) hylow
  rw [atan2Q14_of_height hynan hnan hsnd.ne', hyneg, hfst, fixAngle_zero_left _ hsnd, q14_quarter]
  rfl

/-- Above the x axis on a diagonal, the side given by the sign of x. -/
theorem atan2Q14_of_diagonal {y x : F32} (hy : F32.lt F32.zero y = true) (hx : x.isNan = false) (he : x.expo = y.expo)
    (hf : x.frac = y.frac) : F32.atan2Q14 y x = if x.isNeg then 12288 else 4096 := by
  obtain ⟨hynan, hyneg, hylow⟩ := of_zero_lt hy
  obtain ⟨hfst, hsnd⟩ := anglePair_of_parts_eq he hf hylow
  rw [atan2Q14_of_height hynan hx hsnd.ne', hyneg, hfst, fixAngle_self _ hsnd, q14_diagonal]
  cases x.isNeg <;> rfl

/-- Settles O46: the fixed-point angle is within 0..π, depends on y by its magnitude alone, and on the axes and diagonals
on the ratio of the magnitudes alone; the remaining values are computed. -/
theorem atan2Q14Odd : Obligations.Atan2Q14Odd := by
  unfold Obligations.Atan2Q14Odd
  refine ⟨atan2Q14_range, fun y x hy hx h0 => ?_, fun y x hx hy => atan2Q14_of_y_zero hx hy,
    fun y x hx hy => atan2Q14_of_x_zero hx hy, fun y x hy h => ?_, fun y x hy h => ?_, by decide +kernel⟩
  · refine atan2Q14_neg hy hx fun hlow => ?_
    rw [(isZero_iff hy).mpr hlow] at h0
    cases h0
  · obtain ⟨hx, hneg, he, hf⟩ := parts_of_eqv hy h
    rw [atan2Q14_of_diagonal hy hx he hf, hneg]
    rfl
  · obtain ⟨hnx, hneg, he, hf⟩ := parts_of_eqv hy h
    have hx : x.isNan = false := by
      cases hx : x.isNan
      · rfl
      · rw [F32.neg, hx, if_pos rfl] at hnx
        exact absurd hnx (by decide)
    obtain ⟨hsign, he', hf'⟩ := parts_neg hx
    have hxneg : x.isNeg = true := by
      rw [hneg] at hsign
      exact (Bool.not_eq_false' ..).mp hsign.symm
    rw [atan2Q14_of_diagonal hy hx (he'.symm.trans he) (hf'.symm.trans hf), hxneg]
    rfl

end Sys2Proof.Proofs.Angle
end
